-- ==== Sys2Proof/Word.lean ====
section
/-! DEFINITION. The two word types of the block (spec R5: 8-bit registers and bytes, 16-bit
addresses, stack pointer and program counter). -/

namespace Sys2Proof

/-- A byte: the addressable unit and the width of a general register (R5, R7). -/
abbrev Byte := BitVec 8

/-- A 16-bit value: an address, a register pair, `SP` or `PC` (R5, R7). -/
abbrev Word := BitVec 16

end Sys2Proof
end

