-- ==== Sys2Proof/Config.lean ====
section
/-! DEFINITION. What the spec leaves to an implementation or a host as a named parameter (R6,
92_eei_decisions.md), and the constant it leaves open; what the outside can send in, and the free inputs. -/

namespace Sys2Proof

/-- The parameters of R6 that a step reads.  They are fixed for one machine; the machine state
carries them (`Machine.State.params`) so that every statement about all states is a statement about
all their values.  The defaults are the spec's (D17, D19, D30). -/
structure Params where
  /-- `EI_DELAY`, 0 or 1: how many instructions after `EI` the master enable becomes 1 (R6, R239). -/
  eiDelay : Fin 2 := 1
  /-- `INT_CYCLES`: the cycles an interrupt dispatch adds (R6, R272). -/
  intCycles : Nat := 20
  /-- `HALT_TICK`: the cycles of one idle step in the halted state (R6, R249).  DESIGN CHOICE (log 21): R6
  gives its range as a natural number, 92_eei_decisions.md as one greater than 0; the model takes R6's, so
  0 is allowed too. -/
  haltTick : Nat := 4
  deriving DecidableEq, Repr

/-- `RESET_REGS` of R6: the register values at power-on, each 0 by default (D6). -/
structure ResetRegs where
  a : Byte := 0
  b : Byte := 0
  c : Byte := 0
  d : Byte := 0
  e : Byte := 0
  h : Byte := 0
  l : Byte := 0
  f : Byte := 0
  sp : Word := 0
  deriving DecidableEq, Repr

/-- `DISASM_COUNT` of R6: how many instructions the host command `l` lists.  The spec leaves it OPEN
with no default (D31, U17), so it is a constant nothing can evaluate. -/
opaque Config.disasmCount : Nat

namespace Machine

/-- What the host can do between two steps (R291, R293, R296).  `noop` is also "no action". -/
inductive HostCmd where
  /-- `STEP`: one step with `single = true`. -/
  | step
  /-- `BREAK`: resume free-running. -/
  | brk
  /-- `CONTINUE`: stay in the input loop; what the commands that only inspect return. -/
  | cont
  | noop
  /-- `EXIT`: the run ends where it stands. -/
  | exit
  | addBreakpoint (x : Word)
  | removeBreakpoint (i : Nat)
  /-- The pause request of R296. -/
  | pause
  deriving DecidableEq, Repr, Inhabited

end Machine

/-- The free input `IRQ` of R6: its sample in every executing step, counted from where the feed starts.
Nothing can evaluate it, so what is proved holds of every sequence of requests (log 4). -/
opaque Config.irqOracle : Nat → Option Word

/-- The host's actions as a free input of a run (R255): the action before every step.  Nothing can evaluate
it (log 5). -/
opaque Config.hostOracle : Nat → Machine.HostCmd

end Sys2Proof
end

