-- ==== Sys2Proof/Syntax.lean ====
section
/-! DEFINITION. The instruction set as syntax: selectors of the encoding (R12, R15, R78, R87), one
constructor of `Instr` for every mnemonic of the opcode table (R75, R78, R85), the effect an
instruction names with its field values (R71), and the operation descriptor (R71). -/

namespace Sys2Proof

/-- The 8-bit registers that a 3-bit selector can name (R12); selector 6 is memory and `F` has none. -/
inductive Reg where
  | b | c | d | e | h | l | a
  deriving DecidableEq, Repr

/-- What a 3-bit operand selector names: a register, or for selector 6 the byte at `HL` (R12). -/
inductive Operand8 where
  | reg (r : Reg)
  | atHl
  deriving DecidableEq, Repr

/-- Pair selector table `rp` (R15). -/
inductive Pair where
  | bc | de | hl | sp
  deriving DecidableEq, Repr

/-- The pairs of table `rp2` that `PUSH rr` and `POP rr` name; its fourth entry, `AF`, has
instructions of its own (R15, R136 to R139). -/
inductive StackPair where
  | bc | de | hl
  deriving DecidableEq, Repr

/-- Condition field `cc` (R87). -/
inductive Cond where
  | nz | z | nc | c
  deriving DecidableEq, Repr

/-- The `alu` field (R87). -/
inductive AluOp where
  | add | adc | sub | sbc | and | xor | or | cp
  deriving DecidableEq, Repr

/-- The `rot` field (R78, R189). -/
inductive RotOp where
  | rlc | rrc | rl | rr | sla | sra | swap | srl
  deriving DecidableEq, Repr

/-- A 3-bit field value 0 to 7: a bit number `b` (R78) or a restart number `t` (R231). -/
inductive Idx8 where
  | i0 | i1 | i2 | i3 | i4 | i5 | i6 | i7
  deriving DecidableEq, Repr

/-- The instruction set: one constructor for every mnemonic of spec/opcode_table.json, carrying the
immediate bytes as the operand.  `At` in a name stands for the round brackets of the mnemonic. -/
inductive Instr where
  /-- One of the eleven bytes with no table entry (R76): `ILLEGAL` rows of the table. -/
  | illegal (b : Byte)
  | nop
  | ldBcD16 (w : Word)
  | ldAtBcA
  | incBc
  | incB
  | decB
  | ldBD8 (n : Byte)
  | rlca
  | ldAtA16Sp (w : Word)
  | addHlBc
  | ldAAtBc
  | decBc
  | incC
  | decC
  | ldCD8 (n : Byte)
  | rrca
  | stop (pad : Byte)
  | ldDeD16 (w : Word)
  | ldAtDeA
  | incDe
  | incD
  | decD
  | ldDD8 (n : Byte)
  | rla
  | jrR8 (e : Byte)
  | addHlDe
  | ldAAtDe
  | decDe
  | incE
  | decE
  | ldED8 (n : Byte)
  | rra
  | jrNzR8 (e : Byte)
  | ldHlD16 (w : Word)
  | ldAtHlIncA
  | incHl
  | incH
  | decH
  | ldHD8 (n : Byte)
  | daa
  | jrZR8 (e : Byte)
  | addHlHl
  | ldAAtHlInc
  | decHl
  | incL
  | decL
  | ldLD8 (n : Byte)
  | cpl
  | jrNcR8 (e : Byte)
  | ldSpD16 (w : Word)
  | ldAtHlDecA
  | incSp
  | incAtHl
  | decAtHl
  | ldAtHlD8 (n : Byte)
  | scf
  | jrCR8 (e : Byte)
  | addHlSp
  | ldAAtHlDec
  | decSp
  | incA
  | decA
  | ldAD8 (n : Byte)
  | ccf
  | ldBB
  | ldBC
  | ldBD
  | ldBE
  | ldBH
  | ldBL
  | ldBAtHl
  | ldBA
  | ldCB
  | ldCC
  | ldCD
  | ldCE
  | ldCH
  | ldCL
  | ldCAtHl
  | ldCA
  | ldDB
  | ldDC
  | ldDD
  | ldDE
  | ldDH
  | ldDL
  | ldDAtHl
  | ldDA
  | ldEB
  | ldEC
  | ldED
  | ldEE
  | ldEH
  | ldEL
  | ldEAtHl
  | ldEA
  | ldHB
  | ldHC
  | ldHD
  | ldHE
  | ldHH
  | ldHL
  | ldHAtHl
  | ldHA
  | ldLB
  | ldLC
  | ldLD
  | ldLE
  | ldLH
  | ldLL
  | ldLAtHl
  | ldLA
  | ldAtHlB
  | ldAtHlC
  | ldAtHlD
  | ldAtHlE
  | ldAtHlH
  | ldAtHlL
  | halt
  | ldAtHlA
  | ldAB
  | ldAC
  | ldAD
  | ldAE
  | ldAH
  | ldAL
  | ldAAtHl
  | ldAA
  | addAB
  | addAC
  | addAD
  | addAE
  | addAH
  | addAL
  | addAAtHl
  | addAA
  | adcAB
  | adcAC
  | adcAD
  | adcAE
  | adcAH
  | adcAL
  | adcAAtHl
  | adcAA
  | subB
  | subC
  | subD
  | subE
  | subH
  | subL
  | subAtHl
  | subA
  | sbcAB
  | sbcAC
  | sbcAD
  | sbcAE
  | sbcAH
  | sbcAL
  | sbcAAtHl
  | sbcAA
  | andB
  | andC
  | andD
  | andE
  | andH
  | andL
  | andAtHl
  | andA
  | xorB
  | xorC
  | xorD
  | xorE
  | xorH
  | xorL
  | xorAtHl
  | xorA
  | orB
  | orC
  | orD
  | orE
  | orH
  | orL
  | orAtHl
  | orA
  | cpB
  | cpC
  | cpD
  | cpE
  | cpH
  | cpL
  | cpAtHl
  | cpA
  | retNz
  | popBc
  | jpNzA16 (w : Word)
  | jpA16 (w : Word)
  | callNzA16 (w : Word)
  | pushBc
  | addAD8 (n : Byte)
  | rst00
  | retZ
  | ret
  | jpZA16 (w : Word)
  | callZA16 (w : Word)
  | callA16 (w : Word)
  | adcAD8 (n : Byte)
  | rst08
  | retNc
  | popDe
  | jpNcA16 (w : Word)
  | callNcA16 (w : Word)
  | pushDe
  | subD8 (n : Byte)
  | rst10
  | retC
  | reti
  | jpCA16 (w : Word)
  | callCA16 (w : Word)
  | sbcAD8 (n : Byte)
  | rst18
  | ldhAtA8A (n : Byte)
  | popHl
  | ldAtCA
  | pushHl
  | andD8 (n : Byte)
  | rst20
  | addSpR8 (e : Byte)
  | jpAtHl
  | ldAtA16A (w : Word)
  | xorD8 (n : Byte)
  | rst28
  | ldhAAtA8 (n : Byte)
  | popAf
  | ldAAtC
  | di
  | pushAf
  | orD8 (n : Byte)
  | rst30
  | ldHlSpR8 (e : Byte)
  | ldSpHl
  | ldAAtA16 (w : Word)
  | ei
  | cpD8 (n : Byte)
  | rst38
  | rlcB
  | rlcC
  | rlcD
  | rlcE
  | rlcH
  | rlcL
  | rlcAtHl
  | rlcA
  | rrcB
  | rrcC
  | rrcD
  | rrcE
  | rrcH
  | rrcL
  | rrcAtHl
  | rrcA
  | rlB
  | rlC
  | rlD
  | rlE
  | rlH
  | rlL
  | rlAtHl
  | rlA
  | rrB
  | rrC
  | rrD
  | rrE
  | rrH
  | rrL
  | rrAtHl
  | rrA
  | slaB
  | slaC
  | slaD
  | slaE
  | slaH
  | slaL
  | slaAtHl
  | slaA
  | sraB
  | sraC
  | sraD
  | sraE
  | sraH
  | sraL
  | sraAtHl
  | sraA
  | swapB
  | swapC
  | swapD
  | swapE
  | swapH
  | swapL
  | swapAtHl
  | swapA
  | srlB
  | srlC
  | srlD
  | srlE
  | srlH
  | srlL
  | srlAtHl
  | srlA
  | bit0B
  | bit0C
  | bit0D
  | bit0E
  | bit0H
  | bit0L
  | bit0AtHl
  | bit0A
  | bit1B
  | bit1C
  | bit1D
  | bit1E
  | bit1H
  | bit1L
  | bit1AtHl
  | bit1A
  | bit2B
  | bit2C
  | bit2D
  | bit2E
  | bit2H
  | bit2L
  | bit2AtHl
  | bit2A
  | bit3B
  | bit3C
  | bit3D
  | bit3E
  | bit3H
  | bit3L
  | bit3AtHl
  | bit3A
  | bit4B
  | bit4C
  | bit4D
  | bit4E
  | bit4H
  | bit4L
  | bit4AtHl
  | bit4A
  | bit5B
  | bit5C
  | bit5D
  | bit5E
  | bit5H
  | bit5L
  | bit5AtHl
  | bit5A
  | bit6B
  | bit6C
  | bit6D
  | bit6E
  | bit6H
  | bit6L
  | bit6AtHl
  | bit6A
  | bit7B
  | bit7C
  | bit7D
  | bit7E
  | bit7H
  | bit7L
  | bit7AtHl
  | bit7A
  | res0B
  | res0C
  | res0D
  | res0E
  | res0H
  | res0L
  | res0AtHl
  | res0A
  | res1B
  | res1C
  | res1D
  | res1E
  | res1H
  | res1L
  | res1AtHl
  | res1A
  | res2B
  | res2C
  | res2D
  | res2E
  | res2H
  | res2L
  | res2AtHl
  | res2A
  | res3B
  | res3C
  | res3D
  | res3E
  | res3H
  | res3L
  | res3AtHl
  | res3A
  | res4B
  | res4C
  | res4D
  | res4E
  | res4H
  | res4L
  | res4AtHl
  | res4A
  | res5B
  | res5C
  | res5D
  | res5E
  | res5H
  | res5L
  | res5AtHl
  | res5A
  | res6B
  | res6C
  | res6D
  | res6E
  | res6H
  | res6L
  | res6AtHl
  | res6A
  | res7B
  | res7C
  | res7D
  | res7E
  | res7H
  | res7L
  | res7AtHl
  | res7A
  | set0B
  | set0C
  | set0D
  | set0E
  | set0H
  | set0L
  | set0AtHl
  | set0A
  | set1B
  | set1C
  | set1D
  | set1E
  | set1H
  | set1L
  | set1AtHl
  | set1A
  | set2B
  | set2C
  | set2D
  | set2E
  | set2H
  | set2L
  | set2AtHl
  | set2A
  | set3B
  | set3C
  | set3D
  | set3E
  | set3H
  | set3L
  | set3AtHl
  | set3A
  | set4B
  | set4C
  | set4D
  | set4E
  | set4H
  | set4L
  | set4AtHl
  | set4A
  | set5B
  | set5C
  | set5D
  | set5E
  | set5H
  | set5L
  | set5AtHl
  | set5A
  | set6B
  | set6C
  | set6D
  | set6E
  | set6H
  | set6L
  | set6AtHl
  | set6A
  | set7B
  | set7C
  | set7D
  | set7E
  | set7H
  | set7L
  | set7AtHl
  | set7A
  deriving DecidableEq, Repr

/-- The effect field of a descriptor (R71): the instruction rule with the decoded field values. -/
inductive Effect where
  /-- R101 `LD r,s`. -/
  | ldRegReg (r : Reg) (q : Reg)
  /-- R102 `LD r,d8`. -/
  | ldRegImm (r : Reg) (n : Byte)
  /-- R103 `LD r,(HL)`. -/
  | ldRegAtHl (r : Reg)
  /-- R104 `LD (HL),r`. -/
  | ldAtHlReg (r : Reg)
  /-- R105 `LD (HL),d8`. -/
  | ldAtHlImm (n : Byte)
  /-- R106 `LD A,(BC)`. -/
  | ldAccAtBc
  /-- R107 `LD A,(DE)`. -/
  | ldAccAtDe
  /-- R108 `LD (BC),A`. -/
  | ldAtBcAcc
  /-- R109 `LD (DE),A`. -/
  | ldAtDeAcc
  /-- R110 `LD A,(a16)`. -/
  | ldAccAtAbs (w : Word)
  /-- R111 `LD (a16),A`. -/
  | ldAtAbsAcc (w : Word)
  /-- R112 `LDH A,(a8)`. -/
  | ldAccAtHigh (n : Byte)
  /-- R113 `LDH (a8),A`. -/
  | ldAtHighAcc (n : Byte)
  /-- R114 `LD A,(C)`. -/
  | ldAccAtC
  /-- R115 `LD (C),A`. -/
  | ldAtCAcc
  /-- R116 `LD (HL+),A`. -/
  | ldAtHlIncAcc
  /-- R117 `LD A,(HL+)`. -/
  | ldAccAtHlInc
  /-- R118 `LD (HL-),A`. -/
  | ldAtHlDecAcc
  /-- R119 `LD A,(HL-)`. -/
  | ldAccAtHlDec
  /-- R132 `LD rr,d16`. -/
  | ldPairImm (p : Pair) (w : Word)
  /-- R133 `LD (a16),SP`. -/
  | ldAtAbsSp (w : Word)
  /-- R134 `LD SP,HL`. -/
  | ldSpFromHl
  /-- R135 `LD HL,SP+r8`. -/
  | ldHlSpOffset (e : Byte)
  /-- R136 `PUSH rr`. -/
  | pushPair (p : StackPair)
  /-- R137 `PUSH AF`. -/
  | pushAf
  /-- R138 `POP rr`. -/
  | popPair (p : StackPair)
  /-- R139 `POP AF`. -/
  | popAf
  /-- R150 to R171, the eight accumulator operations with a register. -/
  | aluReg (op : AluOp) (r : Reg)
  /-- R151 to R172, the eight accumulator operations with `(HL)`. -/
  | aluAtHl (op : AluOp)
  /-- R152 to R173, the eight accumulator operations with `d8`. -/
  | aluImm (op : AluOp) (n : Byte)
  /-- R174 `INC r`. -/
  | incReg (r : Reg)
  /-- R175 `INC (HL)`. -/
  | incAtHl
  /-- R176 `DEC r`. -/
  | decReg (r : Reg)
  /-- R177 `DEC (HL)`. -/
  | decAtHl
  /-- R178 `DAA`. -/
  | daa
  /-- R179 `CPL`. -/
  | cpl
  /-- R180 `SCF`. -/
  | scf
  /-- R181 `CCF`. -/
  | ccf
  /-- R185 `ADD HL,rr`. -/
  | addHlPair (p : Pair)
  /-- R186 `INC rr`. -/
  | incPair (p : Pair)
  /-- R187 `DEC rr`. -/
  | decPair (p : Pair)
  /-- R188 `ADD SP,r8`. -/
  | addSpOffset (e : Byte)
  /-- R190 `RLCA`. -/
  | rlca
  /-- R191 `RRCA`. -/
  | rrca
  /-- R192 `RLA`. -/
  | rla
  /-- R193 `RRA`. -/
  | rra
  /-- R194 to R208, the eight rotates and shifts of a register. -/
  | rotReg (op : RotOp) (r : Reg)
  /-- R195 to R209, the eight rotates and shifts of `(HL)`. -/
  | rotAtHl (op : RotOp)
  /-- R210 `BIT b,r`. -/
  | bitReg (i : Idx8) (r : Reg)
  /-- R211 `BIT b,(HL)`. -/
  | bitAtHl (i : Idx8)
  /-- R212 `RES b,r`. -/
  | resReg (i : Idx8) (r : Reg)
  /-- R213 `RES b,(HL)`. -/
  | resAtHl (i : Idx8)
  /-- R214 `SET b,r`. -/
  | setReg (i : Idx8) (r : Reg)
  /-- R215 `SET b,(HL)`. -/
  | setAtHl (i : Idx8)
  /-- R221 `JP a16`. -/
  | jpAbs (w : Word)
  /-- R222 `JP cc,a16`. -/
  | jpCond (cc : Cond) (w : Word)
  /-- R223 `JP (HL)`. -/
  | jpHl
  /-- R224 `JR r8`. -/
  | jrRel (e : Byte)
  /-- R225 `JR cc,r8`. -/
  | jrCond (cc : Cond) (e : Byte)
  /-- R226 `CALL a16`. -/
  | callAbs (w : Word)
  /-- R227 `CALL cc,a16`. -/
  | callCond (cc : Cond) (w : Word)
  /-- R228 `RET`. -/
  | ret
  /-- R229 `RET cc`. -/
  | retCond (cc : Cond)
  /-- R230 `RETI`. -/
  | reti
  /-- R231 `RST n`. -/
  | rst (t : Idx8)
  /-- R235 `NOP`. -/
  | nop
  /-- R236 `HALT`. -/
  | halt
  /-- R237 `STOP`. -/
  | stop (pad : Byte)
  /-- R238 `DI`. -/
  | di
  /-- R239 `EI`. -/
  | ei
  /-- R76, a byte with no table entry. -/
  | illegal (b : Byte)
  deriving DecidableEq, Repr

/-- The operand-fetch rule of a descriptor (R71, R79). -/
inductive OperandRule where
  | none | imm8 | imm16 | reg | mem
  deriving DecidableEq, Repr

/-- The operation descriptor of R71.  `rule` is the number of the instruction rule. -/
structure Descriptor where
  mnemonic : String
  operand : OperandRule
  rule : Nat
  length : Nat
  cycles : Nat
  cyclesNotTaken : Option Nat
  deriving DecidableEq, Repr

end Sys2Proof
end

