-- ==== Sys2Proof/WellFormed.lean ====
section
/-! DEFINITION. Which terms of `Instr` are instructions.  Every operand of a defined instruction may
take every value of its width (R84), so the one check is on the byte of `ILLEGAL` (R76). -/

namespace Sys2Proof

/-- The eleven primary bytes with no table entry (R76). -/
def undefinedBytes : List Byte :=
  [0xD3, 0xDB, 0xDD, 0xE3, 0xE4, 0xEB, 0xEC, 0xED, 0xF4, 0xFC, 0xFD]

/-- An instruction of the table: every defined instruction, and `ILLEGAL` for the eleven bytes only. -/
def Instr.wf (i : Instr) : Bool :=
  match i with
  | .nop => true
  | .ldBcD16 _ => true
  | .ldAtBcA => true
  | .incBc => true
  | .incB => true
  | .decB => true
  | .ldBD8 _ => true
  | .rlca => true
  | .ldAtA16Sp _ => true
  | .addHlBc => true
  | .ldAAtBc => true
  | .decBc => true
  | .incC => true
  | .decC => true
  | .ldCD8 _ => true
  | .rrca => true
  | .stop _ => true
  | .ldDeD16 _ => true
  | .ldAtDeA => true
  | .incDe => true
  | .incD => true
  | .decD => true
  | .ldDD8 _ => true
  | .rla => true
  | .jrR8 _ => true
  | .addHlDe => true
  | .ldAAtDe => true
  | .decDe => true
  | .incE => true
  | .decE => true
  | .ldED8 _ => true
  | .rra => true
  | .jrNzR8 _ => true
  | .ldHlD16 _ => true
  | .ldAtHlIncA => true
  | .incHl => true
  | .incH => true
  | .decH => true
  | .ldHD8 _ => true
  | .daa => true
  | .jrZR8 _ => true
  | .addHlHl => true
  | .ldAAtHlInc => true
  | .decHl => true
  | .incL => true
  | .decL => true
  | .ldLD8 _ => true
  | .cpl => true
  | .jrNcR8 _ => true
  | .ldSpD16 _ => true
  | .ldAtHlDecA => true
  | .incSp => true
  | .incAtHl => true
  | .decAtHl => true
  | .ldAtHlD8 _ => true
  | .scf => true
  | .jrCR8 _ => true
  | .addHlSp => true
  | .ldAAtHlDec => true
  | .decSp => true
  | .incA => true
  | .decA => true
  | .ldAD8 _ => true
  | .ccf => true
  | .ldBB => true
  | .ldBC => true
  | .ldBD => true
  | .ldBE => true
  | .ldBH => true
  | .ldBL => true
  | .ldBAtHl => true
  | .ldBA => true
  | .ldCB => true
  | .ldCC => true
  | .ldCD => true
  | .ldCE => true
  | .ldCH => true
  | .ldCL => true
  | .ldCAtHl => true
  | .ldCA => true
  | .ldDB => true
  | .ldDC => true
  | .ldDD => true
  | .ldDE => true
  | .ldDH => true
  | .ldDL => true
  | .ldDAtHl => true
  | .ldDA => true
  | .ldEB => true
  | .ldEC => true
  | .ldED => true
  | .ldEE => true
  | .ldEH => true
  | .ldEL => true
  | .ldEAtHl => true
  | .ldEA => true
  | .ldHB => true
  | .ldHC => true
  | .ldHD => true
  | .ldHE => true
  | .ldHH => true
  | .ldHL => true
  | .ldHAtHl => true
  | .ldHA => true
  | .ldLB => true
  | .ldLC => true
  | .ldLD => true
  | .ldLE => true
  | .ldLH => true
  | .ldLL => true
  | .ldLAtHl => true
  | .ldLA => true
  | .ldAtHlB => true
  | .ldAtHlC => true
  | .ldAtHlD => true
  | .ldAtHlE => true
  | .ldAtHlH => true
  | .ldAtHlL => true
  | .halt => true
  | .ldAtHlA => true
  | .ldAB => true
  | .ldAC => true
  | .ldAD => true
  | .ldAE => true
  | .ldAH => true
  | .ldAL => true
  | .ldAAtHl => true
  | .ldAA => true
  | .addAB => true
  | .addAC => true
  | .addAD => true
  | .addAE => true
  | .addAH => true
  | .addAL => true
  | .addAAtHl => true
  | .addAA => true
  | .adcAB => true
  | .adcAC => true
  | .adcAD => true
  | .adcAE => true
  | .adcAH => true
  | .adcAL => true
  | .adcAAtHl => true
  | .adcAA => true
  | .subB => true
  | .subC => true
  | .subD => true
  | .subE => true
  | .subH => true
  | .subL => true
  | .subAtHl => true
  | .subA => true
  | .sbcAB => true
  | .sbcAC => true
  | .sbcAD => true
  | .sbcAE => true
  | .sbcAH => true
  | .sbcAL => true
  | .sbcAAtHl => true
  | .sbcAA => true
  | .andB => true
  | .andC => true
  | .andD => true
  | .andE => true
  | .andH => true
  | .andL => true
  | .andAtHl => true
  | .andA => true
  | .xorB => true
  | .xorC => true
  | .xorD => true
  | .xorE => true
  | .xorH => true
  | .xorL => true
  | .xorAtHl => true
  | .xorA => true
  | .orB => true
  | .orC => true
  | .orD => true
  | .orE => true
  | .orH => true
  | .orL => true
  | .orAtHl => true
  | .orA => true
  | .cpB => true
  | .cpC => true
  | .cpD => true
  | .cpE => true
  | .cpH => true
  | .cpL => true
  | .cpAtHl => true
  | .cpA => true
  | .retNz => true
  | .popBc => true
  | .jpNzA16 _ => true
  | .jpA16 _ => true
  | .callNzA16 _ => true
  | .pushBc => true
  | .addAD8 _ => true
  | .rst00 => true
  | .retZ => true
  | .ret => true
  | .jpZA16 _ => true
  | .callZA16 _ => true
  | .callA16 _ => true
  | .adcAD8 _ => true
  | .rst08 => true
  | .retNc => true
  | .popDe => true
  | .jpNcA16 _ => true
  | .callNcA16 _ => true
  | .pushDe => true
  | .subD8 _ => true
  | .rst10 => true
  | .retC => true
  | .reti => true
  | .jpCA16 _ => true
  | .callCA16 _ => true
  | .sbcAD8 _ => true
  | .rst18 => true
  | .ldhAtA8A _ => true
  | .popHl => true
  | .ldAtCA => true
  | .pushHl => true
  | .andD8 _ => true
  | .rst20 => true
  | .addSpR8 _ => true
  | .jpAtHl => true
  | .ldAtA16A _ => true
  | .xorD8 _ => true
  | .rst28 => true
  | .ldhAAtA8 _ => true
  | .popAf => true
  | .ldAAtC => true
  | .di => true
  | .pushAf => true
  | .orD8 _ => true
  | .rst30 => true
  | .ldHlSpR8 _ => true
  | .ldSpHl => true
  | .ldAAtA16 _ => true
  | .ei => true
  | .cpD8 _ => true
  | .rst38 => true
  | .rlcB => true
  | .rlcC => true
  | .rlcD => true
  | .rlcE => true
  | .rlcH => true
  | .rlcL => true
  | .rlcAtHl => true
  | .rlcA => true
  | .rrcB => true
  | .rrcC => true
  | .rrcD => true
  | .rrcE => true
  | .rrcH => true
  | .rrcL => true
  | .rrcAtHl => true
  | .rrcA => true
  | .rlB => true
  | .rlC => true
  | .rlD => true
  | .rlE => true
  | .rlH => true
  | .rlL => true
  | .rlAtHl => true
  | .rlA => true
  | .rrB => true
  | .rrC => true
  | .rrD => true
  | .rrE => true
  | .rrH => true
  | .rrL => true
  | .rrAtHl => true
  | .rrA => true
  | .slaB => true
  | .slaC => true
  | .slaD => true
  | .slaE => true
  | .slaH => true
  | .slaL => true
  | .slaAtHl => true
  | .slaA => true
  | .sraB => true
  | .sraC => true
  | .sraD => true
  | .sraE => true
  | .sraH => true
  | .sraL => true
  | .sraAtHl => true
  | .sraA => true
  | .swapB => true
  | .swapC => true
  | .swapD => true
  | .swapE => true
  | .swapH => true
  | .swapL => true
  | .swapAtHl => true
  | .swapA => true
  | .srlB => true
  | .srlC => true
  | .srlD => true
  | .srlE => true
  | .srlH => true
  | .srlL => true
  | .srlAtHl => true
  | .srlA => true
  | .bit0B => true
  | .bit0C => true
  | .bit0D => true
  | .bit0E => true
  | .bit0H => true
  | .bit0L => true
  | .bit0AtHl => true
  | .bit0A => true
  | .bit1B => true
  | .bit1C => true
  | .bit1D => true
  | .bit1E => true
  | .bit1H => true
  | .bit1L => true
  | .bit1AtHl => true
  | .bit1A => true
  | .bit2B => true
  | .bit2C => true
  | .bit2D => true
  | .bit2E => true
  | .bit2H => true
  | .bit2L => true
  | .bit2AtHl => true
  | .bit2A => true
  | .bit3B => true
  | .bit3C => true
  | .bit3D => true
  | .bit3E => true
  | .bit3H => true
  | .bit3L => true
  | .bit3AtHl => true
  | .bit3A => true
  | .bit4B => true
  | .bit4C => true
  | .bit4D => true
  | .bit4E => true
  | .bit4H => true
  | .bit4L => true
  | .bit4AtHl => true
  | .bit4A => true
  | .bit5B => true
  | .bit5C => true
  | .bit5D => true
  | .bit5E => true
  | .bit5H => true
  | .bit5L => true
  | .bit5AtHl => true
  | .bit5A => true
  | .bit6B => true
  | .bit6C => true
  | .bit6D => true
  | .bit6E => true
  | .bit6H => true
  | .bit6L => true
  | .bit6AtHl => true
  | .bit6A => true
  | .bit7B => true
  | .bit7C => true
  | .bit7D => true
  | .bit7E => true
  | .bit7H => true
  | .bit7L => true
  | .bit7AtHl => true
  | .bit7A => true
  | .res0B => true
  | .res0C => true
  | .res0D => true
  | .res0E => true
  | .res0H => true
  | .res0L => true
  | .res0AtHl => true
  | .res0A => true
  | .res1B => true
  | .res1C => true
  | .res1D => true
  | .res1E => true
  | .res1H => true
  | .res1L => true
  | .res1AtHl => true
  | .res1A => true
  | .res2B => true
  | .res2C => true
  | .res2D => true
  | .res2E => true
  | .res2H => true
  | .res2L => true
  | .res2AtHl => true
  | .res2A => true
  | .res3B => true
  | .res3C => true
  | .res3D => true
  | .res3E => true
  | .res3H => true
  | .res3L => true
  | .res3AtHl => true
  | .res3A => true
  | .res4B => true
  | .res4C => true
  | .res4D => true
  | .res4E => true
  | .res4H => true
  | .res4L => true
  | .res4AtHl => true
  | .res4A => true
  | .res5B => true
  | .res5C => true
  | .res5D => true
  | .res5E => true
  | .res5H => true
  | .res5L => true
  | .res5AtHl => true
  | .res5A => true
  | .res6B => true
  | .res6C => true
  | .res6D => true
  | .res6E => true
  | .res6H => true
  | .res6L => true
  | .res6AtHl => true
  | .res6A => true
  | .res7B => true
  | .res7C => true
  | .res7D => true
  | .res7E => true
  | .res7H => true
  | .res7L => true
  | .res7AtHl => true
  | .res7A => true
  | .set0B => true
  | .set0C => true
  | .set0D => true
  | .set0E => true
  | .set0H => true
  | .set0L => true
  | .set0AtHl => true
  | .set0A => true
  | .set1B => true
  | .set1C => true
  | .set1D => true
  | .set1E => true
  | .set1H => true
  | .set1L => true
  | .set1AtHl => true
  | .set1A => true
  | .set2B => true
  | .set2C => true
  | .set2D => true
  | .set2E => true
  | .set2H => true
  | .set2L => true
  | .set2AtHl => true
  | .set2A => true
  | .set3B => true
  | .set3C => true
  | .set3D => true
  | .set3E => true
  | .set3H => true
  | .set3L => true
  | .set3AtHl => true
  | .set3A => true
  | .set4B => true
  | .set4C => true
  | .set4D => true
  | .set4E => true
  | .set4H => true
  | .set4L => true
  | .set4AtHl => true
  | .set4A => true
  | .set5B => true
  | .set5C => true
  | .set5D => true
  | .set5E => true
  | .set5H => true
  | .set5L => true
  | .set5AtHl => true
  | .set5A => true
  | .set6B => true
  | .set6C => true
  | .set6D => true
  | .set6E => true
  | .set6H => true
  | .set6L => true
  | .set6AtHl => true
  | .set6A => true
  | .set7B => true
  | .set7C => true
  | .set7D => true
  | .set7E => true
  | .set7H => true
  | .set7L => true
  | .set7AtHl => true
  | .set7A => true
  | .illegal b => undefinedBytes.elem b

end Sys2Proof
end

