-- ==== Sys2Proof/Decode.lean ====
section
/-! DEFINITION. The instruction decoder (30_encoding.md): from bytes to fields (R73), from fields to the
effect (R75, R78), from the effect to the instruction; then the encoder, written from the table's own
words; the operation descriptor of every instruction (R71); and the host's `decodeTableWord`. -/

namespace Sys2Proof

/-- Low byte `w[7:0]` (R7). -/
def loByte (w : Word) : Byte := w.setWidth 8

/-- High byte `w[15:8]` (R7). -/
def hiByte (w : Word) : Byte := (w >>> 8).setWidth 8

/-- The concatenation `hi:lo` (R7). -/
def joinBytes (hi lo : Byte) : Word := hi ++ lo

/-- `sext_16` of R8: the byte read as two's complement. -/
def sext16 (v : Byte) : Word := v.signExtend 16

/-- The value of a 3-bit field. -/
def Idx8.value : Idx8 → Nat
  | .i0 => 0 | .i1 => 1 | .i2 => 2 | .i3 => 3 | .i4 => 4 | .i5 => 5 | .i6 => 6 | .i7 => 7

/-- The three low bits of a number as a field value. -/
def Idx8.ofBits (n : Nat) : Idx8 :=
  match n % 8 with
  | 0 => .i0 | 1 => .i1 | 2 => .i2 | 3 => .i3 | 4 => .i4 | 5 => .i5 | 6 => .i6 | _ => .i7

/-- Field `y` of an opcode byte, bits 5 to 3 (R73). -/
def fieldY (b : Byte) : Idx8 := Idx8.ofBits (b.toNat / 8)

/-- Field `z` of an opcode byte, bits 2 to 0 (R73). -/
def fieldZ (b : Byte) : Idx8 := Idx8.ofBits b.toNat

/-- Register selector (R12). -/
def selOperand : Idx8 → Operand8
  | .i0 => .reg .b | .i1 => .reg .c | .i2 => .reg .d | .i3 => .reg .e
  | .i4 => .reg .h | .i5 => .reg .l | .i6 => .atHl | .i7 => .reg .a

/-- The `alu` field (R87). -/
def selAlu : Idx8 → AluOp
  | .i0 => .add | .i1 => .adc | .i2 => .sub | .i3 => .sbc
  | .i4 => .and | .i5 => .xor | .i6 => .or | .i7 => .cp

/-- The `rot` field (R78). -/
def selRot : Idx8 → RotOp
  | .i0 => .rlc | .i1 => .rrc | .i2 => .rl | .i3 => .rr
  | .i4 => .sla | .i5 => .sra | .i6 => .swap | .i7 => .srl

/-- The `cc` field, bits 4 to 3, which is `y` without its top bit (R73, R87). -/
def selCond : Idx8 → Cond
  | .i0 | .i4 => .nz | .i1 | .i5 => .z | .i2 | .i6 => .nc | .i3 | .i7 => .c

/-- Table `rp` on `p = y[2:1]` (R15, R73). -/
def selPair : Idx8 → Pair
  | .i0 | .i1 => .bc | .i2 | .i3 => .de | .i4 | .i5 => .hl | .i6 | .i7 => .sp

/-- Bit `q = y[0]` (R73). -/
def fieldQ : Idx8 → Bool
  | .i0 | .i2 | .i4 | .i6 => false
  | .i1 | .i3 | .i5 | .i7 => true

/-- `LD r,s` with either side possibly `(HL)`; both is `HALT` (R75, R101, R103, R104, R236). -/
def loadEffect : Operand8 → Operand8 → Effect
  | .reg r, .reg q => .ldRegReg r q
  | .reg r, .atHl => .ldRegAtHl r
  | .atHl, .reg q => .ldAtHlReg q
  | .atHl, .atHl => .halt

/-- The accumulator operations on a selected operand (R75). -/
def aluEffect (op : AluOp) : Operand8 → Effect
  | .reg q => .aluReg op q
  | .atHl => .aluAtHl op

/-- Primary table, `x` = 0 (R75). -/
def primary0 (y z : Idx8) (n : Byte) (w : Word) : Effect :=
  match z, y with
  | .i0, .i0 => .nop
  | .i0, .i1 => .ldAtAbsSp w
  | .i0, .i2 => .stop n
  | .i0, .i3 => .jrRel n
  | .i0, y => .jrCond (selCond y) n
  | .i1, y => if fieldQ y then .addHlPair (selPair y) else .ldPairImm (selPair y) w
  | .i2, .i0 => .ldAtBcAcc
  | .i2, .i1 => .ldAccAtBc
  | .i2, .i2 => .ldAtDeAcc
  | .i2, .i3 => .ldAccAtDe
  | .i2, .i4 => .ldAtHlIncAcc
  | .i2, .i5 => .ldAccAtHlInc
  | .i2, .i6 => .ldAtHlDecAcc
  | .i2, .i7 => .ldAccAtHlDec
  | .i3, y => if fieldQ y then .decPair (selPair y) else .incPair (selPair y)
  | .i4, y =>
    match selOperand y with
    | .reg r => .incReg r
    | .atHl => .incAtHl
  | .i5, y =>
    match selOperand y with
    | .reg r => .decReg r
    | .atHl => .decAtHl
  | .i6, y =>
    match selOperand y with
    | .reg r => .ldRegImm r n
    | .atHl => .ldAtHlImm n
  | .i7, .i0 => .rlca
  | .i7, .i1 => .rrca
  | .i7, .i2 => .rla
  | .i7, .i3 => .rra
  | .i7, .i4 => .daa
  | .i7, .i5 => .cpl
  | .i7, .i6 => .scf
  | .i7, .i7 => .ccf

/-- Primary table, `x` = 3 (R75); `b0` is the opcode byte, named when it is undefined (R76). -/
def primary3 (b0 : Byte) (y z : Idx8) (n : Byte) (w : Word) : Effect :=
  match z, y with
  | .i0, .i4 => .ldAtHighAcc n
  | .i0, .i5 => .addSpOffset n
  | .i0, .i6 => .ldAccAtHigh n
  | .i0, .i7 => .ldHlSpOffset n
  | .i0, y => .retCond (selCond y)
  | .i1, .i0 => .popPair .bc
  | .i1, .i1 => .ret
  | .i1, .i2 => .popPair .de
  | .i1, .i3 => .reti
  | .i1, .i4 => .popPair .hl
  | .i1, .i5 => .jpHl
  | .i1, .i6 => .popAf
  | .i1, .i7 => .ldSpFromHl
  | .i2, .i4 => .ldAtCAcc
  | .i2, .i5 => .ldAtAbsAcc w
  | .i2, .i6 => .ldAccAtC
  | .i2, .i7 => .ldAccAtAbs w
  | .i2, y => .jpCond (selCond y) w
  | .i3, .i0 => .jpAbs w
  | .i3, .i6 => .di
  | .i3, .i7 => .ei
  | .i3, _ => .illegal b0
  | .i4, .i0 => .callCond .nz w
  | .i4, .i1 => .callCond .z w
  | .i4, .i2 => .callCond .nc w
  | .i4, .i3 => .callCond .c w
  | .i4, _ => .illegal b0
  | .i5, .i0 => .pushPair .bc
  | .i5, .i1 => .callAbs w
  | .i5, .i2 => .pushPair .de
  | .i5, .i4 => .pushPair .hl
  | .i5, .i6 => .pushAf
  | .i5, _ => .illegal b0
  | .i6, y => .aluImm (selAlu y) n
  | .i7, y => .rst y

/-- Extended table, indexed by the byte after the escape byte (R78). -/
def extended (b1 : Byte) : Effect :=
  match b1.toNat / 64, selOperand (fieldZ b1) with
  | 0, .reg q => .rotReg (selRot (fieldY b1)) q
  | 0, .atHl => .rotAtHl (selRot (fieldY b1))
  | 1, .reg q => .bitReg (fieldY b1) q
  | 1, .atHl => .bitAtHl (fieldY b1)
  | 2, .reg q => .resReg (fieldY b1) q
  | 2, .atHl => .resAtHl (fieldY b1)
  | _, .reg q => .setReg (fieldY b1) q
  | _, .atHl => .setAtHl (fieldY b1)

/-- The escape byte (R77). -/
def escapeByte : Byte := 0xCB

/-- The effect of the instruction whose bytes start with `b0 b1 b2`: total on any bytes (R70, R82).
The bytes after the instruction's length do not matter; a 16-bit immediate is low byte first (R74). -/
def decodeEffect (b0 b1 b2 : Byte) : Effect :=
  if b0 = escapeByte then extended b1
  else
    match b0.toNat / 64 with
    | 0 => primary0 (fieldY b0) (fieldZ b0) b1 (joinBytes b2 b1)
    | 1 => loadEffect (selOperand (fieldY b0)) (selOperand (fieldZ b0))
    | 2 => aluEffect (selAlu (fieldY b0)) (selOperand (fieldZ b0))
    | _ => primary3 b0 (fieldY b0) (fieldZ b0) b1 (joinBytes b2 b1)

/-- R101 `LD r,s`: the instruction with these field values. -/
def Instr.ldRegRegOf (r : Reg) (q : Reg) : Instr :=
  match r, q with
  | .b, .b => .ldBB
  | .b, .c => .ldBC
  | .b, .d => .ldBD
  | .b, .e => .ldBE
  | .b, .h => .ldBH
  | .b, .l => .ldBL
  | .b, .a => .ldBA
  | .c, .b => .ldCB
  | .c, .c => .ldCC
  | .c, .d => .ldCD
  | .c, .e => .ldCE
  | .c, .h => .ldCH
  | .c, .l => .ldCL
  | .c, .a => .ldCA
  | .d, .b => .ldDB
  | .d, .c => .ldDC
  | .d, .d => .ldDD
  | .d, .e => .ldDE
  | .d, .h => .ldDH
  | .d, .l => .ldDL
  | .d, .a => .ldDA
  | .e, .b => .ldEB
  | .e, .c => .ldEC
  | .e, .d => .ldED
  | .e, .e => .ldEE
  | .e, .h => .ldEH
  | .e, .l => .ldEL
  | .e, .a => .ldEA
  | .h, .b => .ldHB
  | .h, .c => .ldHC
  | .h, .d => .ldHD
  | .h, .e => .ldHE
  | .h, .h => .ldHH
  | .h, .l => .ldHL
  | .h, .a => .ldHA
  | .l, .b => .ldLB
  | .l, .c => .ldLC
  | .l, .d => .ldLD
  | .l, .e => .ldLE
  | .l, .h => .ldLH
  | .l, .l => .ldLL
  | .l, .a => .ldLA
  | .a, .b => .ldAB
  | .a, .c => .ldAC
  | .a, .d => .ldAD
  | .a, .e => .ldAE
  | .a, .h => .ldAH
  | .a, .l => .ldAL
  | .a, .a => .ldAA

/-- R102 `LD r,d8`: the instruction with these field values. -/
def Instr.ldRegImmOf (r : Reg) (n : Byte) : Instr :=
  match r with
  | .b => .ldBD8 n
  | .c => .ldCD8 n
  | .d => .ldDD8 n
  | .e => .ldED8 n
  | .h => .ldHD8 n
  | .l => .ldLD8 n
  | .a => .ldAD8 n

/-- R103 `LD r,(HL)`: the instruction with these field values. -/
def Instr.ldRegAtHlOf (r : Reg) : Instr :=
  match r with
  | .b => .ldBAtHl
  | .c => .ldCAtHl
  | .d => .ldDAtHl
  | .e => .ldEAtHl
  | .h => .ldHAtHl
  | .l => .ldLAtHl
  | .a => .ldAAtHl

/-- R104 `LD (HL),r`: the instruction with these field values. -/
def Instr.ldAtHlRegOf (r : Reg) : Instr :=
  match r with
  | .b => .ldAtHlB
  | .c => .ldAtHlC
  | .d => .ldAtHlD
  | .e => .ldAtHlE
  | .h => .ldAtHlH
  | .l => .ldAtHlL
  | .a => .ldAtHlA

/-- R105 `LD (HL),d8`: the instruction with these field values. -/
def Instr.ldAtHlImmOf (n : Byte) : Instr := .ldAtHlD8 n

/-- R106 `LD A,(BC)`: the instruction with these field values. -/
def Instr.ldAccAtBcOf : Instr := .ldAAtBc

/-- R107 `LD A,(DE)`: the instruction with these field values. -/
def Instr.ldAccAtDeOf : Instr := .ldAAtDe

/-- R108 `LD (BC),A`: the instruction with these field values. -/
def Instr.ldAtBcAccOf : Instr := .ldAtBcA

/-- R109 `LD (DE),A`: the instruction with these field values. -/
def Instr.ldAtDeAccOf : Instr := .ldAtDeA

/-- R110 `LD A,(a16)`: the instruction with these field values. -/
def Instr.ldAccAtAbsOf (w : Word) : Instr := .ldAAtA16 w

/-- R111 `LD (a16),A`: the instruction with these field values. -/
def Instr.ldAtAbsAccOf (w : Word) : Instr := .ldAtA16A w

/-- R112 `LDH A,(a8)`: the instruction with these field values. -/
def Instr.ldAccAtHighOf (n : Byte) : Instr := .ldhAAtA8 n

/-- R113 `LDH (a8),A`: the instruction with these field values. -/
def Instr.ldAtHighAccOf (n : Byte) : Instr := .ldhAtA8A n

/-- R114 `LD A,(C)`: the instruction with these field values. -/
def Instr.ldAccAtCOf : Instr := .ldAAtC

/-- R115 `LD (C),A`: the instruction with these field values. -/
def Instr.ldAtCAccOf : Instr := .ldAtCA

/-- R116 `LD (HL+),A`: the instruction with these field values. -/
def Instr.ldAtHlIncAccOf : Instr := .ldAtHlIncA

/-- R117 `LD A,(HL+)`: the instruction with these field values. -/
def Instr.ldAccAtHlIncOf : Instr := .ldAAtHlInc

/-- R118 `LD (HL-),A`: the instruction with these field values. -/
def Instr.ldAtHlDecAccOf : Instr := .ldAtHlDecA

/-- R119 `LD A,(HL-)`: the instruction with these field values. -/
def Instr.ldAccAtHlDecOf : Instr := .ldAAtHlDec

/-- R132 `LD rr,d16`: the instruction with these field values. -/
def Instr.ldPairImmOf (p : Pair) (w : Word) : Instr :=
  match p with
  | .bc => .ldBcD16 w
  | .de => .ldDeD16 w
  | .hl => .ldHlD16 w
  | .sp => .ldSpD16 w

/-- R133 `LD (a16),SP`: the instruction with these field values. -/
def Instr.ldAtAbsSpOf (w : Word) : Instr := .ldAtA16Sp w

/-- R134 `LD SP,HL`: the instruction with these field values. -/
def Instr.ldSpFromHlOf : Instr := .ldSpHl

/-- R135 `LD HL,SP+r8`: the instruction with these field values. -/
def Instr.ldHlSpOffsetOf (e : Byte) : Instr := .ldHlSpR8 e

/-- R136 `PUSH rr`: the instruction with these field values. -/
def Instr.pushPairOf (p : StackPair) : Instr :=
  match p with
  | .bc => .pushBc
  | .de => .pushDe
  | .hl => .pushHl

/-- R137 `PUSH AF`: the instruction with these field values. -/
def Instr.pushAfOf : Instr := .pushAf

/-- R138 `POP rr`: the instruction with these field values. -/
def Instr.popPairOf (p : StackPair) : Instr :=
  match p with
  | .bc => .popBc
  | .de => .popDe
  | .hl => .popHl

/-- R139 `POP AF`: the instruction with these field values. -/
def Instr.popAfOf : Instr := .popAf

/-- R150 to R171, the eight accumulator operations with a register: the instruction with these field values. -/
def Instr.aluRegOf (op : AluOp) (r : Reg) : Instr :=
  match op, r with
  | .add, .b => .addAB
  | .add, .c => .addAC
  | .add, .d => .addAD
  | .add, .e => .addAE
  | .add, .h => .addAH
  | .add, .l => .addAL
  | .add, .a => .addAA
  | .adc, .b => .adcAB
  | .adc, .c => .adcAC
  | .adc, .d => .adcAD
  | .adc, .e => .adcAE
  | .adc, .h => .adcAH
  | .adc, .l => .adcAL
  | .adc, .a => .adcAA
  | .sub, .b => .subB
  | .sub, .c => .subC
  | .sub, .d => .subD
  | .sub, .e => .subE
  | .sub, .h => .subH
  | .sub, .l => .subL
  | .sub, .a => .subA
  | .sbc, .b => .sbcAB
  | .sbc, .c => .sbcAC
  | .sbc, .d => .sbcAD
  | .sbc, .e => .sbcAE
  | .sbc, .h => .sbcAH
  | .sbc, .l => .sbcAL
  | .sbc, .a => .sbcAA
  | .and, .b => .andB
  | .and, .c => .andC
  | .and, .d => .andD
  | .and, .e => .andE
  | .and, .h => .andH
  | .and, .l => .andL
  | .and, .a => .andA
  | .xor, .b => .xorB
  | .xor, .c => .xorC
  | .xor, .d => .xorD
  | .xor, .e => .xorE
  | .xor, .h => .xorH
  | .xor, .l => .xorL
  | .xor, .a => .xorA
  | .or, .b => .orB
  | .or, .c => .orC
  | .or, .d => .orD
  | .or, .e => .orE
  | .or, .h => .orH
  | .or, .l => .orL
  | .or, .a => .orA
  | .cp, .b => .cpB
  | .cp, .c => .cpC
  | .cp, .d => .cpD
  | .cp, .e => .cpE
  | .cp, .h => .cpH
  | .cp, .l => .cpL
  | .cp, .a => .cpA

/-- R151 to R172, the eight accumulator operations with `(HL)`: the instruction with these field values. -/
def Instr.aluAtHlOf (op : AluOp) : Instr :=
  match op with
  | .add => .addAAtHl
  | .adc => .adcAAtHl
  | .sub => .subAtHl
  | .sbc => .sbcAAtHl
  | .and => .andAtHl
  | .xor => .xorAtHl
  | .or => .orAtHl
  | .cp => .cpAtHl

/-- R152 to R173, the eight accumulator operations with `d8`: the instruction with these field values. -/
def Instr.aluImmOf (op : AluOp) (n : Byte) : Instr :=
  match op with
  | .add => .addAD8 n
  | .adc => .adcAD8 n
  | .sub => .subD8 n
  | .sbc => .sbcAD8 n
  | .and => .andD8 n
  | .xor => .xorD8 n
  | .or => .orD8 n
  | .cp => .cpD8 n

/-- R174 `INC r`: the instruction with these field values. -/
def Instr.incRegOf (r : Reg) : Instr :=
  match r with
  | .b => .incB
  | .c => .incC
  | .d => .incD
  | .e => .incE
  | .h => .incH
  | .l => .incL
  | .a => .incA

/-- R175 `INC (HL)`: the instruction with these field values. -/
def Instr.incAtHlOf : Instr := .incAtHl

/-- R176 `DEC r`: the instruction with these field values. -/
def Instr.decRegOf (r : Reg) : Instr :=
  match r with
  | .b => .decB
  | .c => .decC
  | .d => .decD
  | .e => .decE
  | .h => .decH
  | .l => .decL
  | .a => .decA

/-- R177 `DEC (HL)`: the instruction with these field values. -/
def Instr.decAtHlOf : Instr := .decAtHl

/-- R178 `DAA`: the instruction with these field values. -/
def Instr.daaOf : Instr := .daa

/-- R179 `CPL`: the instruction with these field values. -/
def Instr.cplOf : Instr := .cpl

/-- R180 `SCF`: the instruction with these field values. -/
def Instr.scfOf : Instr := .scf

/-- R181 `CCF`: the instruction with these field values. -/
def Instr.ccfOf : Instr := .ccf

/-- R185 `ADD HL,rr`: the instruction with these field values. -/
def Instr.addHlPairOf (p : Pair) : Instr :=
  match p with
  | .bc => .addHlBc
  | .de => .addHlDe
  | .hl => .addHlHl
  | .sp => .addHlSp

/-- R186 `INC rr`: the instruction with these field values. -/
def Instr.incPairOf (p : Pair) : Instr :=
  match p with
  | .bc => .incBc
  | .de => .incDe
  | .hl => .incHl
  | .sp => .incSp

/-- R187 `DEC rr`: the instruction with these field values. -/
def Instr.decPairOf (p : Pair) : Instr :=
  match p with
  | .bc => .decBc
  | .de => .decDe
  | .hl => .decHl
  | .sp => .decSp

/-- R188 `ADD SP,r8`: the instruction with these field values. -/
def Instr.addSpOffsetOf (e : Byte) : Instr := .addSpR8 e

/-- R190 `RLCA`: the instruction with these field values. -/
def Instr.rlcaOf : Instr := .rlca

/-- R191 `RRCA`: the instruction with these field values. -/
def Instr.rrcaOf : Instr := .rrca

/-- R192 `RLA`: the instruction with these field values. -/
def Instr.rlaOf : Instr := .rla

/-- R193 `RRA`: the instruction with these field values. -/
def Instr.rraOf : Instr := .rra

/-- R194 to R208, the eight rotates and shifts of a register: the instruction with these field values. -/
def Instr.rotRegOf (op : RotOp) (r : Reg) : Instr :=
  match op, r with
  | .rlc, .b => .rlcB
  | .rlc, .c => .rlcC
  | .rlc, .d => .rlcD
  | .rlc, .e => .rlcE
  | .rlc, .h => .rlcH
  | .rlc, .l => .rlcL
  | .rlc, .a => .rlcA
  | .rrc, .b => .rrcB
  | .rrc, .c => .rrcC
  | .rrc, .d => .rrcD
  | .rrc, .e => .rrcE
  | .rrc, .h => .rrcH
  | .rrc, .l => .rrcL
  | .rrc, .a => .rrcA
  | .rl, .b => .rlB
  | .rl, .c => .rlC
  | .rl, .d => .rlD
  | .rl, .e => .rlE
  | .rl, .h => .rlH
  | .rl, .l => .rlL
  | .rl, .a => .rlA
  | .rr, .b => .rrB
  | .rr, .c => .rrC
  | .rr, .d => .rrD
  | .rr, .e => .rrE
  | .rr, .h => .rrH
  | .rr, .l => .rrL
  | .rr, .a => .rrA
  | .sla, .b => .slaB
  | .sla, .c => .slaC
  | .sla, .d => .slaD
  | .sla, .e => .slaE
  | .sla, .h => .slaH
  | .sla, .l => .slaL
  | .sla, .a => .slaA
  | .sra, .b => .sraB
  | .sra, .c => .sraC
  | .sra, .d => .sraD
  | .sra, .e => .sraE
  | .sra, .h => .sraH
  | .sra, .l => .sraL
  | .sra, .a => .sraA
  | .swap, .b => .swapB
  | .swap, .c => .swapC
  | .swap, .d => .swapD
  | .swap, .e => .swapE
  | .swap, .h => .swapH
  | .swap, .l => .swapL
  | .swap, .a => .swapA
  | .srl, .b => .srlB
  | .srl, .c => .srlC
  | .srl, .d => .srlD
  | .srl, .e => .srlE
  | .srl, .h => .srlH
  | .srl, .l => .srlL
  | .srl, .a => .srlA

/-- R195 to R209, the eight rotates and shifts of `(HL)`: the instruction with these field values. -/
def Instr.rotAtHlOf (op : RotOp) : Instr :=
  match op with
  | .rlc => .rlcAtHl
  | .rrc => .rrcAtHl
  | .rl => .rlAtHl
  | .rr => .rrAtHl
  | .sla => .slaAtHl
  | .sra => .sraAtHl
  | .swap => .swapAtHl
  | .srl => .srlAtHl

/-- R210 `BIT b,r`: the instruction with these field values. -/
def Instr.bitRegOf (i : Idx8) (r : Reg) : Instr :=
  match i, r with
  | .i0, .b => .bit0B
  | .i0, .c => .bit0C
  | .i0, .d => .bit0D
  | .i0, .e => .bit0E
  | .i0, .h => .bit0H
  | .i0, .l => .bit0L
  | .i0, .a => .bit0A
  | .i1, .b => .bit1B
  | .i1, .c => .bit1C
  | .i1, .d => .bit1D
  | .i1, .e => .bit1E
  | .i1, .h => .bit1H
  | .i1, .l => .bit1L
  | .i1, .a => .bit1A
  | .i2, .b => .bit2B
  | .i2, .c => .bit2C
  | .i2, .d => .bit2D
  | .i2, .e => .bit2E
  | .i2, .h => .bit2H
  | .i2, .l => .bit2L
  | .i2, .a => .bit2A
  | .i3, .b => .bit3B
  | .i3, .c => .bit3C
  | .i3, .d => .bit3D
  | .i3, .e => .bit3E
  | .i3, .h => .bit3H
  | .i3, .l => .bit3L
  | .i3, .a => .bit3A
  | .i4, .b => .bit4B
  | .i4, .c => .bit4C
  | .i4, .d => .bit4D
  | .i4, .e => .bit4E
  | .i4, .h => .bit4H
  | .i4, .l => .bit4L
  | .i4, .a => .bit4A
  | .i5, .b => .bit5B
  | .i5, .c => .bit5C
  | .i5, .d => .bit5D
  | .i5, .e => .bit5E
  | .i5, .h => .bit5H
  | .i5, .l => .bit5L
  | .i5, .a => .bit5A
  | .i6, .b => .bit6B
  | .i6, .c => .bit6C
  | .i6, .d => .bit6D
  | .i6, .e => .bit6E
  | .i6, .h => .bit6H
  | .i6, .l => .bit6L
  | .i6, .a => .bit6A
  | .i7, .b => .bit7B
  | .i7, .c => .bit7C
  | .i7, .d => .bit7D
  | .i7, .e => .bit7E
  | .i7, .h => .bit7H
  | .i7, .l => .bit7L
  | .i7, .a => .bit7A

/-- R211 `BIT b,(HL)`: the instruction with these field values. -/
def Instr.bitAtHlOf (i : Idx8) : Instr :=
  match i with
  | .i0 => .bit0AtHl
  | .i1 => .bit1AtHl
  | .i2 => .bit2AtHl
  | .i3 => .bit3AtHl
  | .i4 => .bit4AtHl
  | .i5 => .bit5AtHl
  | .i6 => .bit6AtHl
  | .i7 => .bit7AtHl

/-- R212 `RES b,r`: the instruction with these field values. -/
def Instr.resRegOf (i : Idx8) (r : Reg) : Instr :=
  match i, r with
  | .i0, .b => .res0B
  | .i0, .c => .res0C
  | .i0, .d => .res0D
  | .i0, .e => .res0E
  | .i0, .h => .res0H
  | .i0, .l => .res0L
  | .i0, .a => .res0A
  | .i1, .b => .res1B
  | .i1, .c => .res1C
  | .i1, .d => .res1D
  | .i1, .e => .res1E
  | .i1, .h => .res1H
  | .i1, .l => .res1L
  | .i1, .a => .res1A
  | .i2, .b => .res2B
  | .i2, .c => .res2C
  | .i2, .d => .res2D
  | .i2, .e => .res2E
  | .i2, .h => .res2H
  | .i2, .l => .res2L
  | .i2, .a => .res2A
  | .i3, .b => .res3B
  | .i3, .c => .res3C
  | .i3, .d => .res3D
  | .i3, .e => .res3E
  | .i3, .h => .res3H
  | .i3, .l => .res3L
  | .i3, .a => .res3A
  | .i4, .b => .res4B
  | .i4, .c => .res4C
  | .i4, .d => .res4D
  | .i4, .e => .res4E
  | .i4, .h => .res4H
  | .i4, .l => .res4L
  | .i4, .a => .res4A
  | .i5, .b => .res5B
  | .i5, .c => .res5C
  | .i5, .d => .res5D
  | .i5, .e => .res5E
  | .i5, .h => .res5H
  | .i5, .l => .res5L
  | .i5, .a => .res5A
  | .i6, .b => .res6B
  | .i6, .c => .res6C
  | .i6, .d => .res6D
  | .i6, .e => .res6E
  | .i6, .h => .res6H
  | .i6, .l => .res6L
  | .i6, .a => .res6A
  | .i7, .b => .res7B
  | .i7, .c => .res7C
  | .i7, .d => .res7D
  | .i7, .e => .res7E
  | .i7, .h => .res7H
  | .i7, .l => .res7L
  | .i7, .a => .res7A

/-- R213 `RES b,(HL)`: the instruction with these field values. -/
def Instr.resAtHlOf (i : Idx8) : Instr :=
  match i with
  | .i0 => .res0AtHl
  | .i1 => .res1AtHl
  | .i2 => .res2AtHl
  | .i3 => .res3AtHl
  | .i4 => .res4AtHl
  | .i5 => .res5AtHl
  | .i6 => .res6AtHl
  | .i7 => .res7AtHl

/-- R214 `SET b,r`: the instruction with these field values. -/
def Instr.setRegOf (i : Idx8) (r : Reg) : Instr :=
  match i, r with
  | .i0, .b => .set0B
  | .i0, .c => .set0C
  | .i0, .d => .set0D
  | .i0, .e => .set0E
  | .i0, .h => .set0H
  | .i0, .l => .set0L
  | .i0, .a => .set0A
  | .i1, .b => .set1B
  | .i1, .c => .set1C
  | .i1, .d => .set1D
  | .i1, .e => .set1E
  | .i1, .h => .set1H
  | .i1, .l => .set1L
  | .i1, .a => .set1A
  | .i2, .b => .set2B
  | .i2, .c => .set2C
  | .i2, .d => .set2D
  | .i2, .e => .set2E
  | .i2, .h => .set2H
  | .i2, .l => .set2L
  | .i2, .a => .set2A
  | .i3, .b => .set3B
  | .i3, .c => .set3C
  | .i3, .d => .set3D
  | .i3, .e => .set3E
  | .i3, .h => .set3H
  | .i3, .l => .set3L
  | .i3, .a => .set3A
  | .i4, .b => .set4B
  | .i4, .c => .set4C
  | .i4, .d => .set4D
  | .i4, .e => .set4E
  | .i4, .h => .set4H
  | .i4, .l => .set4L
  | .i4, .a => .set4A
  | .i5, .b => .set5B
  | .i5, .c => .set5C
  | .i5, .d => .set5D
  | .i5, .e => .set5E
  | .i5, .h => .set5H
  | .i5, .l => .set5L
  | .i5, .a => .set5A
  | .i6, .b => .set6B
  | .i6, .c => .set6C
  | .i6, .d => .set6D
  | .i6, .e => .set6E
  | .i6, .h => .set6H
  | .i6, .l => .set6L
  | .i6, .a => .set6A
  | .i7, .b => .set7B
  | .i7, .c => .set7C
  | .i7, .d => .set7D
  | .i7, .e => .set7E
  | .i7, .h => .set7H
  | .i7, .l => .set7L
  | .i7, .a => .set7A

/-- R215 `SET b,(HL)`: the instruction with these field values. -/
def Instr.setAtHlOf (i : Idx8) : Instr :=
  match i with
  | .i0 => .set0AtHl
  | .i1 => .set1AtHl
  | .i2 => .set2AtHl
  | .i3 => .set3AtHl
  | .i4 => .set4AtHl
  | .i5 => .set5AtHl
  | .i6 => .set6AtHl
  | .i7 => .set7AtHl

/-- R221 `JP a16`: the instruction with these field values. -/
def Instr.jpAbsOf (w : Word) : Instr := .jpA16 w

/-- R222 `JP cc,a16`: the instruction with these field values. -/
def Instr.jpCondOf (cc : Cond) (w : Word) : Instr :=
  match cc with
  | .nz => .jpNzA16 w
  | .z => .jpZA16 w
  | .nc => .jpNcA16 w
  | .c => .jpCA16 w

/-- R223 `JP (HL)`: the instruction with these field values. -/
def Instr.jpHlOf : Instr := .jpAtHl

/-- R224 `JR r8`: the instruction with these field values. -/
def Instr.jrRelOf (e : Byte) : Instr := .jrR8 e

/-- R225 `JR cc,r8`: the instruction with these field values. -/
def Instr.jrCondOf (cc : Cond) (e : Byte) : Instr :=
  match cc with
  | .nz => .jrNzR8 e
  | .z => .jrZR8 e
  | .nc => .jrNcR8 e
  | .c => .jrCR8 e

/-- R226 `CALL a16`: the instruction with these field values. -/
def Instr.callAbsOf (w : Word) : Instr := .callA16 w

/-- R227 `CALL cc,a16`: the instruction with these field values. -/
def Instr.callCondOf (cc : Cond) (w : Word) : Instr :=
  match cc with
  | .nz => .callNzA16 w
  | .z => .callZA16 w
  | .nc => .callNcA16 w
  | .c => .callCA16 w

/-- R228 `RET`: the instruction with these field values. -/
def Instr.retOf : Instr := .ret

/-- R229 `RET cc`: the instruction with these field values. -/
def Instr.retCondOf (cc : Cond) : Instr :=
  match cc with
  | .nz => .retNz
  | .z => .retZ
  | .nc => .retNc
  | .c => .retC

/-- R230 `RETI`: the instruction with these field values. -/
def Instr.retiOf : Instr := .reti

/-- R231 `RST n`: the instruction with these field values. -/
def Instr.rstOf (t : Idx8) : Instr :=
  match t with
  | .i0 => .rst00
  | .i1 => .rst08
  | .i2 => .rst10
  | .i3 => .rst18
  | .i4 => .rst20
  | .i5 => .rst28
  | .i6 => .rst30
  | .i7 => .rst38

/-- R235 `NOP`: the instruction with these field values. -/
def Instr.nopOf : Instr := .nop

/-- R236 `HALT`: the instruction with these field values. -/
def Instr.haltOf : Instr := .halt

/-- R237 `STOP`: the instruction with these field values. -/
def Instr.stopOf (pad : Byte) : Instr := .stop pad

/-- R238 `DI`: the instruction with these field values. -/
def Instr.diOf : Instr := .di

/-- R239 `EI`: the instruction with these field values. -/
def Instr.eiOf : Instr := .ei

/-- The instruction of an effect: the constructor whose table row has these field values (R71). -/
def Effect.instr : Effect → Instr
  | .ldRegReg r q => Instr.ldRegRegOf r q
  | .ldRegImm r n => Instr.ldRegImmOf r n
  | .ldRegAtHl r => Instr.ldRegAtHlOf r
  | .ldAtHlReg r => Instr.ldAtHlRegOf r
  | .ldAtHlImm n => Instr.ldAtHlImmOf n
  | .ldAccAtBc => Instr.ldAccAtBcOf
  | .ldAccAtDe => Instr.ldAccAtDeOf
  | .ldAtBcAcc => Instr.ldAtBcAccOf
  | .ldAtDeAcc => Instr.ldAtDeAccOf
  | .ldAccAtAbs w => Instr.ldAccAtAbsOf w
  | .ldAtAbsAcc w => Instr.ldAtAbsAccOf w
  | .ldAccAtHigh n => Instr.ldAccAtHighOf n
  | .ldAtHighAcc n => Instr.ldAtHighAccOf n
  | .ldAccAtC => Instr.ldAccAtCOf
  | .ldAtCAcc => Instr.ldAtCAccOf
  | .ldAtHlIncAcc => Instr.ldAtHlIncAccOf
  | .ldAccAtHlInc => Instr.ldAccAtHlIncOf
  | .ldAtHlDecAcc => Instr.ldAtHlDecAccOf
  | .ldAccAtHlDec => Instr.ldAccAtHlDecOf
  | .ldPairImm p w => Instr.ldPairImmOf p w
  | .ldAtAbsSp w => Instr.ldAtAbsSpOf w
  | .ldSpFromHl => Instr.ldSpFromHlOf
  | .ldHlSpOffset e => Instr.ldHlSpOffsetOf e
  | .pushPair p => Instr.pushPairOf p
  | .pushAf => Instr.pushAfOf
  | .popPair p => Instr.popPairOf p
  | .popAf => Instr.popAfOf
  | .aluReg op r => Instr.aluRegOf op r
  | .aluAtHl op => Instr.aluAtHlOf op
  | .aluImm op n => Instr.aluImmOf op n
  | .incReg r => Instr.incRegOf r
  | .incAtHl => Instr.incAtHlOf
  | .decReg r => Instr.decRegOf r
  | .decAtHl => Instr.decAtHlOf
  | .daa => Instr.daaOf
  | .cpl => Instr.cplOf
  | .scf => Instr.scfOf
  | .ccf => Instr.ccfOf
  | .addHlPair p => Instr.addHlPairOf p
  | .incPair p => Instr.incPairOf p
  | .decPair p => Instr.decPairOf p
  | .addSpOffset e => Instr.addSpOffsetOf e
  | .rlca => Instr.rlcaOf
  | .rrca => Instr.rrcaOf
  | .rla => Instr.rlaOf
  | .rra => Instr.rraOf
  | .rotReg op r => Instr.rotRegOf op r
  | .rotAtHl op => Instr.rotAtHlOf op
  | .bitReg i r => Instr.bitRegOf i r
  | .bitAtHl i => Instr.bitAtHlOf i
  | .resReg i r => Instr.resRegOf i r
  | .resAtHl i => Instr.resAtHlOf i
  | .setReg i r => Instr.setRegOf i r
  | .setAtHl i => Instr.setAtHlOf i
  | .jpAbs w => Instr.jpAbsOf w
  | .jpCond cc w => Instr.jpCondOf cc w
  | .jpHl => Instr.jpHlOf
  | .jrRel e => Instr.jrRelOf e
  | .jrCond cc e => Instr.jrCondOf cc e
  | .callAbs w => Instr.callAbsOf w
  | .callCond cc w => Instr.callCondOf cc w
  | .ret => Instr.retOf
  | .retCond cc => Instr.retCondOf cc
  | .reti => Instr.retiOf
  | .rst t => Instr.rstOf t
  | .nop => Instr.nopOf
  | .halt => Instr.haltOf
  | .stop pad => Instr.stopOf pad
  | .di => Instr.diOf
  | .ei => Instr.eiOf
  | .illegal b => .illegal b

/-- The instruction whose bytes start with `b0 b1 b2` (R82, execute path): total. -/
def decodeBytes (b0 b1 b2 : Byte) : Instr := (decodeEffect b0 b1 b2).instr

/-- The operation descriptor of an instruction (R71), from its row of the opcode table; `none` exactly
where the table has no entry (R70, R76). -/
def Instr.desc (i : Instr) : Option Descriptor :=
  match i with
  | .nop => some ⟨"NOP", .none, 235, 1, 4, none⟩
  | .ldBcD16 _ => some ⟨"LD BC,d16", .imm16, 132, 3, 12, none⟩
  | .ldAtBcA => some ⟨"LD (BC),A", .mem, 108, 1, 8, none⟩
  | .incBc => some ⟨"INC BC", .reg, 186, 1, 8, none⟩
  | .incB => some ⟨"INC B", .reg, 174, 1, 4, none⟩
  | .decB => some ⟨"DEC B", .reg, 176, 1, 4, none⟩
  | .ldBD8 _ => some ⟨"LD B,d8", .imm8, 102, 2, 8, none⟩
  | .rlca => some ⟨"RLCA", .reg, 190, 1, 4, none⟩
  | .ldAtA16Sp _ => some ⟨"LD (a16),SP", .imm16, 133, 3, 20, none⟩
  | .addHlBc => some ⟨"ADD HL,BC", .reg, 185, 1, 8, none⟩
  | .ldAAtBc => some ⟨"LD A,(BC)", .mem, 106, 1, 8, none⟩
  | .decBc => some ⟨"DEC BC", .reg, 187, 1, 8, none⟩
  | .incC => some ⟨"INC C", .reg, 174, 1, 4, none⟩
  | .decC => some ⟨"DEC C", .reg, 176, 1, 4, none⟩
  | .ldCD8 _ => some ⟨"LD C,d8", .imm8, 102, 2, 8, none⟩
  | .rrca => some ⟨"RRCA", .reg, 191, 1, 4, none⟩
  | .stop _ => some ⟨"STOP", .imm8, 237, 2, 4, none⟩
  | .ldDeD16 _ => some ⟨"LD DE,d16", .imm16, 132, 3, 12, none⟩
  | .ldAtDeA => some ⟨"LD (DE),A", .mem, 109, 1, 8, none⟩
  | .incDe => some ⟨"INC DE", .reg, 186, 1, 8, none⟩
  | .incD => some ⟨"INC D", .reg, 174, 1, 4, none⟩
  | .decD => some ⟨"DEC D", .reg, 176, 1, 4, none⟩
  | .ldDD8 _ => some ⟨"LD D,d8", .imm8, 102, 2, 8, none⟩
  | .rla => some ⟨"RLA", .reg, 192, 1, 4, none⟩
  | .jrR8 _ => some ⟨"JR r8", .imm8, 224, 2, 12, none⟩
  | .addHlDe => some ⟨"ADD HL,DE", .reg, 185, 1, 8, none⟩
  | .ldAAtDe => some ⟨"LD A,(DE)", .mem, 107, 1, 8, none⟩
  | .decDe => some ⟨"DEC DE", .reg, 187, 1, 8, none⟩
  | .incE => some ⟨"INC E", .reg, 174, 1, 4, none⟩
  | .decE => some ⟨"DEC E", .reg, 176, 1, 4, none⟩
  | .ldED8 _ => some ⟨"LD E,d8", .imm8, 102, 2, 8, none⟩
  | .rra => some ⟨"RRA", .reg, 193, 1, 4, none⟩
  | .jrNzR8 _ => some ⟨"JR NZ,r8", .imm8, 225, 2, 12, (some 8)⟩
  | .ldHlD16 _ => some ⟨"LD HL,d16", .imm16, 132, 3, 12, none⟩
  | .ldAtHlIncA => some ⟨"LD (HL+),A", .mem, 116, 1, 8, none⟩
  | .incHl => some ⟨"INC HL", .reg, 186, 1, 8, none⟩
  | .incH => some ⟨"INC H", .reg, 174, 1, 4, none⟩
  | .decH => some ⟨"DEC H", .reg, 176, 1, 4, none⟩
  | .ldHD8 _ => some ⟨"LD H,d8", .imm8, 102, 2, 8, none⟩
  | .daa => some ⟨"DAA", .reg, 178, 1, 4, none⟩
  | .jrZR8 _ => some ⟨"JR Z,r8", .imm8, 225, 2, 12, (some 8)⟩
  | .addHlHl => some ⟨"ADD HL,HL", .reg, 185, 1, 8, none⟩
  | .ldAAtHlInc => some ⟨"LD A,(HL+)", .mem, 117, 1, 8, none⟩
  | .decHl => some ⟨"DEC HL", .reg, 187, 1, 8, none⟩
  | .incL => some ⟨"INC L", .reg, 174, 1, 4, none⟩
  | .decL => some ⟨"DEC L", .reg, 176, 1, 4, none⟩
  | .ldLD8 _ => some ⟨"LD L,d8", .imm8, 102, 2, 8, none⟩
  | .cpl => some ⟨"CPL", .reg, 179, 1, 4, none⟩
  | .jrNcR8 _ => some ⟨"JR NC,r8", .imm8, 225, 2, 12, (some 8)⟩
  | .ldSpD16 _ => some ⟨"LD SP,d16", .imm16, 132, 3, 12, none⟩
  | .ldAtHlDecA => some ⟨"LD (HL-),A", .mem, 118, 1, 8, none⟩
  | .incSp => some ⟨"INC SP", .reg, 186, 1, 8, none⟩
  | .incAtHl => some ⟨"INC (HL)", .mem, 175, 1, 12, none⟩
  | .decAtHl => some ⟨"DEC (HL)", .mem, 177, 1, 12, none⟩
  | .ldAtHlD8 _ => some ⟨"LD (HL),d8", .imm8, 105, 2, 12, none⟩
  | .scf => some ⟨"SCF", .reg, 180, 1, 4, none⟩
  | .jrCR8 _ => some ⟨"JR C,r8", .imm8, 225, 2, 12, (some 8)⟩
  | .addHlSp => some ⟨"ADD HL,SP", .reg, 185, 1, 8, none⟩
  | .ldAAtHlDec => some ⟨"LD A,(HL-)", .mem, 119, 1, 8, none⟩
  | .decSp => some ⟨"DEC SP", .reg, 187, 1, 8, none⟩
  | .incA => some ⟨"INC A", .reg, 174, 1, 4, none⟩
  | .decA => some ⟨"DEC A", .reg, 176, 1, 4, none⟩
  | .ldAD8 _ => some ⟨"LD A,d8", .imm8, 102, 2, 8, none⟩
  | .ccf => some ⟨"CCF", .reg, 181, 1, 4, none⟩
  | .ldBB => some ⟨"LD B,B", .reg, 101, 1, 4, none⟩
  | .ldBC => some ⟨"LD B,C", .reg, 101, 1, 4, none⟩
  | .ldBD => some ⟨"LD B,D", .reg, 101, 1, 4, none⟩
  | .ldBE => some ⟨"LD B,E", .reg, 101, 1, 4, none⟩
  | .ldBH => some ⟨"LD B,H", .reg, 101, 1, 4, none⟩
  | .ldBL => some ⟨"LD B,L", .reg, 101, 1, 4, none⟩
  | .ldBAtHl => some ⟨"LD B,(HL)", .mem, 103, 1, 8, none⟩
  | .ldBA => some ⟨"LD B,A", .reg, 101, 1, 4, none⟩
  | .ldCB => some ⟨"LD C,B", .reg, 101, 1, 4, none⟩
  | .ldCC => some ⟨"LD C,C", .reg, 101, 1, 4, none⟩
  | .ldCD => some ⟨"LD C,D", .reg, 101, 1, 4, none⟩
  | .ldCE => some ⟨"LD C,E", .reg, 101, 1, 4, none⟩
  | .ldCH => some ⟨"LD C,H", .reg, 101, 1, 4, none⟩
  | .ldCL => some ⟨"LD C,L", .reg, 101, 1, 4, none⟩
  | .ldCAtHl => some ⟨"LD C,(HL)", .mem, 103, 1, 8, none⟩
  | .ldCA => some ⟨"LD C,A", .reg, 101, 1, 4, none⟩
  | .ldDB => some ⟨"LD D,B", .reg, 101, 1, 4, none⟩
  | .ldDC => some ⟨"LD D,C", .reg, 101, 1, 4, none⟩
  | .ldDD => some ⟨"LD D,D", .reg, 101, 1, 4, none⟩
  | .ldDE => some ⟨"LD D,E", .reg, 101, 1, 4, none⟩
  | .ldDH => some ⟨"LD D,H", .reg, 101, 1, 4, none⟩
  | .ldDL => some ⟨"LD D,L", .reg, 101, 1, 4, none⟩
  | .ldDAtHl => some ⟨"LD D,(HL)", .mem, 103, 1, 8, none⟩
  | .ldDA => some ⟨"LD D,A", .reg, 101, 1, 4, none⟩
  | .ldEB => some ⟨"LD E,B", .reg, 101, 1, 4, none⟩
  | .ldEC => some ⟨"LD E,C", .reg, 101, 1, 4, none⟩
  | .ldED => some ⟨"LD E,D", .reg, 101, 1, 4, none⟩
  | .ldEE => some ⟨"LD E,E", .reg, 101, 1, 4, none⟩
  | .ldEH => some ⟨"LD E,H", .reg, 101, 1, 4, none⟩
  | .ldEL => some ⟨"LD E,L", .reg, 101, 1, 4, none⟩
  | .ldEAtHl => some ⟨"LD E,(HL)", .mem, 103, 1, 8, none⟩
  | .ldEA => some ⟨"LD E,A", .reg, 101, 1, 4, none⟩
  | .ldHB => some ⟨"LD H,B", .reg, 101, 1, 4, none⟩
  | .ldHC => some ⟨"LD H,C", .reg, 101, 1, 4, none⟩
  | .ldHD => some ⟨"LD H,D", .reg, 101, 1, 4, none⟩
  | .ldHE => some ⟨"LD H,E", .reg, 101, 1, 4, none⟩
  | .ldHH => some ⟨"LD H,H", .reg, 101, 1, 4, none⟩
  | .ldHL => some ⟨"LD H,L", .reg, 101, 1, 4, none⟩
  | .ldHAtHl => some ⟨"LD H,(HL)", .mem, 103, 1, 8, none⟩
  | .ldHA => some ⟨"LD H,A", .reg, 101, 1, 4, none⟩
  | .ldLB => some ⟨"LD L,B", .reg, 101, 1, 4, none⟩
  | .ldLC => some ⟨"LD L,C", .reg, 101, 1, 4, none⟩
  | .ldLD => some ⟨"LD L,D", .reg, 101, 1, 4, none⟩
  | .ldLE => some ⟨"LD L,E", .reg, 101, 1, 4, none⟩
  | .ldLH => some ⟨"LD L,H", .reg, 101, 1, 4, none⟩
  | .ldLL => some ⟨"LD L,L", .reg, 101, 1, 4, none⟩
  | .ldLAtHl => some ⟨"LD L,(HL)", .mem, 103, 1, 8, none⟩
  | .ldLA => some ⟨"LD L,A", .reg, 101, 1, 4, none⟩
  | .ldAtHlB => some ⟨"LD (HL),B", .mem, 104, 1, 8, none⟩
  | .ldAtHlC => some ⟨"LD (HL),C", .mem, 104, 1, 8, none⟩
  | .ldAtHlD => some ⟨"LD (HL),D", .mem, 104, 1, 8, none⟩
  | .ldAtHlE => some ⟨"LD (HL),E", .mem, 104, 1, 8, none⟩
  | .ldAtHlH => some ⟨"LD (HL),H", .mem, 104, 1, 8, none⟩
  | .ldAtHlL => some ⟨"LD (HL),L", .mem, 104, 1, 8, none⟩
  | .halt => some ⟨"HALT", .none, 236, 1, 4, none⟩
  | .ldAtHlA => some ⟨"LD (HL),A", .mem, 104, 1, 8, none⟩
  | .ldAB => some ⟨"LD A,B", .reg, 101, 1, 4, none⟩
  | .ldAC => some ⟨"LD A,C", .reg, 101, 1, 4, none⟩
  | .ldAD => some ⟨"LD A,D", .reg, 101, 1, 4, none⟩
  | .ldAE => some ⟨"LD A,E", .reg, 101, 1, 4, none⟩
  | .ldAH => some ⟨"LD A,H", .reg, 101, 1, 4, none⟩
  | .ldAL => some ⟨"LD A,L", .reg, 101, 1, 4, none⟩
  | .ldAAtHl => some ⟨"LD A,(HL)", .mem, 103, 1, 8, none⟩
  | .ldAA => some ⟨"LD A,A", .reg, 101, 1, 4, none⟩
  | .addAB => some ⟨"ADD A,B", .reg, 150, 1, 4, none⟩
  | .addAC => some ⟨"ADD A,C", .reg, 150, 1, 4, none⟩
  | .addAD => some ⟨"ADD A,D", .reg, 150, 1, 4, none⟩
  | .addAE => some ⟨"ADD A,E", .reg, 150, 1, 4, none⟩
  | .addAH => some ⟨"ADD A,H", .reg, 150, 1, 4, none⟩
  | .addAL => some ⟨"ADD A,L", .reg, 150, 1, 4, none⟩
  | .addAAtHl => some ⟨"ADD A,(HL)", .mem, 151, 1, 8, none⟩
  | .addAA => some ⟨"ADD A,A", .reg, 150, 1, 4, none⟩
  | .adcAB => some ⟨"ADC A,B", .reg, 153, 1, 4, none⟩
  | .adcAC => some ⟨"ADC A,C", .reg, 153, 1, 4, none⟩
  | .adcAD => some ⟨"ADC A,D", .reg, 153, 1, 4, none⟩
  | .adcAE => some ⟨"ADC A,E", .reg, 153, 1, 4, none⟩
  | .adcAH => some ⟨"ADC A,H", .reg, 153, 1, 4, none⟩
  | .adcAL => some ⟨"ADC A,L", .reg, 153, 1, 4, none⟩
  | .adcAAtHl => some ⟨"ADC A,(HL)", .mem, 154, 1, 8, none⟩
  | .adcAA => some ⟨"ADC A,A", .reg, 153, 1, 4, none⟩
  | .subB => some ⟨"SUB B", .reg, 156, 1, 4, none⟩
  | .subC => some ⟨"SUB C", .reg, 156, 1, 4, none⟩
  | .subD => some ⟨"SUB D", .reg, 156, 1, 4, none⟩
  | .subE => some ⟨"SUB E", .reg, 156, 1, 4, none⟩
  | .subH => some ⟨"SUB H", .reg, 156, 1, 4, none⟩
  | .subL => some ⟨"SUB L", .reg, 156, 1, 4, none⟩
  | .subAtHl => some ⟨"SUB (HL)", .mem, 157, 1, 8, none⟩
  | .subA => some ⟨"SUB A", .reg, 156, 1, 4, none⟩
  | .sbcAB => some ⟨"SBC A,B", .reg, 159, 1, 4, none⟩
  | .sbcAC => some ⟨"SBC A,C", .reg, 159, 1, 4, none⟩
  | .sbcAD => some ⟨"SBC A,D", .reg, 159, 1, 4, none⟩
  | .sbcAE => some ⟨"SBC A,E", .reg, 159, 1, 4, none⟩
  | .sbcAH => some ⟨"SBC A,H", .reg, 159, 1, 4, none⟩
  | .sbcAL => some ⟨"SBC A,L", .reg, 159, 1, 4, none⟩
  | .sbcAAtHl => some ⟨"SBC A,(HL)", .mem, 160, 1, 8, none⟩
  | .sbcAA => some ⟨"SBC A,A", .reg, 159, 1, 4, none⟩
  | .andB => some ⟨"AND B", .reg, 162, 1, 4, none⟩
  | .andC => some ⟨"AND C", .reg, 162, 1, 4, none⟩
  | .andD => some ⟨"AND D", .reg, 162, 1, 4, none⟩
  | .andE => some ⟨"AND E", .reg, 162, 1, 4, none⟩
  | .andH => some ⟨"AND H", .reg, 162, 1, 4, none⟩
  | .andL => some ⟨"AND L", .reg, 162, 1, 4, none⟩
  | .andAtHl => some ⟨"AND (HL)", .mem, 163, 1, 8, none⟩
  | .andA => some ⟨"AND A", .reg, 162, 1, 4, none⟩
  | .xorB => some ⟨"XOR B", .reg, 165, 1, 4, none⟩
  | .xorC => some ⟨"XOR C", .reg, 165, 1, 4, none⟩
  | .xorD => some ⟨"XOR D", .reg, 165, 1, 4, none⟩
  | .xorE => some ⟨"XOR E", .reg, 165, 1, 4, none⟩
  | .xorH => some ⟨"XOR H", .reg, 165, 1, 4, none⟩
  | .xorL => some ⟨"XOR L", .reg, 165, 1, 4, none⟩
  | .xorAtHl => some ⟨"XOR (HL)", .mem, 166, 1, 8, none⟩
  | .xorA => some ⟨"XOR A", .reg, 165, 1, 4, none⟩
  | .orB => some ⟨"OR B", .reg, 168, 1, 4, none⟩
  | .orC => some ⟨"OR C", .reg, 168, 1, 4, none⟩
  | .orD => some ⟨"OR D", .reg, 168, 1, 4, none⟩
  | .orE => some ⟨"OR E", .reg, 168, 1, 4, none⟩
  | .orH => some ⟨"OR H", .reg, 168, 1, 4, none⟩
  | .orL => some ⟨"OR L", .reg, 168, 1, 4, none⟩
  | .orAtHl => some ⟨"OR (HL)", .mem, 169, 1, 8, none⟩
  | .orA => some ⟨"OR A", .reg, 168, 1, 4, none⟩
  | .cpB => some ⟨"CP B", .reg, 171, 1, 4, none⟩
  | .cpC => some ⟨"CP C", .reg, 171, 1, 4, none⟩
  | .cpD => some ⟨"CP D", .reg, 171, 1, 4, none⟩
  | .cpE => some ⟨"CP E", .reg, 171, 1, 4, none⟩
  | .cpH => some ⟨"CP H", .reg, 171, 1, 4, none⟩
  | .cpL => some ⟨"CP L", .reg, 171, 1, 4, none⟩
  | .cpAtHl => some ⟨"CP (HL)", .mem, 172, 1, 8, none⟩
  | .cpA => some ⟨"CP A", .reg, 171, 1, 4, none⟩
  | .retNz => some ⟨"RET NZ", .none, 229, 1, 20, (some 8)⟩
  | .popBc => some ⟨"POP BC", .reg, 138, 1, 12, none⟩
  | .jpNzA16 _ => some ⟨"JP NZ,a16", .imm16, 222, 3, 16, (some 12)⟩
  | .jpA16 _ => some ⟨"JP a16", .imm16, 221, 3, 16, none⟩
  | .callNzA16 _ => some ⟨"CALL NZ,a16", .imm16, 227, 3, 24, (some 12)⟩
  | .pushBc => some ⟨"PUSH BC", .reg, 136, 1, 16, none⟩
  | .addAD8 _ => some ⟨"ADD A,d8", .imm8, 152, 2, 8, none⟩
  | .rst00 => some ⟨"RST 00H", .none, 231, 1, 16, none⟩
  | .retZ => some ⟨"RET Z", .none, 229, 1, 20, (some 8)⟩
  | .ret => some ⟨"RET", .none, 228, 1, 16, none⟩
  | .jpZA16 _ => some ⟨"JP Z,a16", .imm16, 222, 3, 16, (some 12)⟩
  | .callZA16 _ => some ⟨"CALL Z,a16", .imm16, 227, 3, 24, (some 12)⟩
  | .callA16 _ => some ⟨"CALL a16", .imm16, 226, 3, 24, none⟩
  | .adcAD8 _ => some ⟨"ADC A,d8", .imm8, 155, 2, 8, none⟩
  | .rst08 => some ⟨"RST 08H", .none, 231, 1, 16, none⟩
  | .retNc => some ⟨"RET NC", .none, 229, 1, 20, (some 8)⟩
  | .popDe => some ⟨"POP DE", .reg, 138, 1, 12, none⟩
  | .jpNcA16 _ => some ⟨"JP NC,a16", .imm16, 222, 3, 16, (some 12)⟩
  | .callNcA16 _ => some ⟨"CALL NC,a16", .imm16, 227, 3, 24, (some 12)⟩
  | .pushDe => some ⟨"PUSH DE", .reg, 136, 1, 16, none⟩
  | .subD8 _ => some ⟨"SUB d8", .imm8, 158, 2, 8, none⟩
  | .rst10 => some ⟨"RST 10H", .none, 231, 1, 16, none⟩
  | .retC => some ⟨"RET C", .none, 229, 1, 20, (some 8)⟩
  | .reti => some ⟨"RETI", .none, 230, 1, 16, none⟩
  | .jpCA16 _ => some ⟨"JP C,a16", .imm16, 222, 3, 16, (some 12)⟩
  | .callCA16 _ => some ⟨"CALL C,a16", .imm16, 227, 3, 24, (some 12)⟩
  | .sbcAD8 _ => some ⟨"SBC A,d8", .imm8, 161, 2, 8, none⟩
  | .rst18 => some ⟨"RST 18H", .none, 231, 1, 16, none⟩
  | .ldhAtA8A _ => some ⟨"LDH (a8),A", .imm8, 113, 2, 12, none⟩
  | .popHl => some ⟨"POP HL", .reg, 138, 1, 12, none⟩
  | .ldAtCA => some ⟨"LD (C),A", .mem, 115, 1, 8, none⟩
  | .pushHl => some ⟨"PUSH HL", .reg, 136, 1, 16, none⟩
  | .andD8 _ => some ⟨"AND d8", .imm8, 164, 2, 8, none⟩
  | .rst20 => some ⟨"RST 20H", .none, 231, 1, 16, none⟩
  | .addSpR8 _ => some ⟨"ADD SP,r8", .imm8, 188, 2, 16, none⟩
  | .jpAtHl => some ⟨"JP (HL)", .reg, 223, 1, 4, none⟩
  | .ldAtA16A _ => some ⟨"LD (a16),A", .imm16, 111, 3, 16, none⟩
  | .xorD8 _ => some ⟨"XOR d8", .imm8, 167, 2, 8, none⟩
  | .rst28 => some ⟨"RST 28H", .none, 231, 1, 16, none⟩
  | .ldhAAtA8 _ => some ⟨"LDH A,(a8)", .imm8, 112, 2, 12, none⟩
  | .popAf => some ⟨"POP AF", .reg, 139, 1, 12, none⟩
  | .ldAAtC => some ⟨"LD A,(C)", .mem, 114, 1, 8, none⟩
  | .di => some ⟨"DI", .none, 238, 1, 4, none⟩
  | .pushAf => some ⟨"PUSH AF", .reg, 137, 1, 16, none⟩
  | .orD8 _ => some ⟨"OR d8", .imm8, 170, 2, 8, none⟩
  | .rst30 => some ⟨"RST 30H", .none, 231, 1, 16, none⟩
  | .ldHlSpR8 _ => some ⟨"LD HL,SP+r8", .imm8, 135, 2, 12, none⟩
  | .ldSpHl => some ⟨"LD SP,HL", .reg, 134, 1, 8, none⟩
  | .ldAAtA16 _ => some ⟨"LD A,(a16)", .imm16, 110, 3, 16, none⟩
  | .ei => some ⟨"EI", .none, 239, 1, 4, none⟩
  | .cpD8 _ => some ⟨"CP d8", .imm8, 173, 2, 8, none⟩
  | .rst38 => some ⟨"RST 38H", .none, 231, 1, 16, none⟩
  | .rlcB => some ⟨"RLC B", .reg, 194, 2, 8, none⟩
  | .rlcC => some ⟨"RLC C", .reg, 194, 2, 8, none⟩
  | .rlcD => some ⟨"RLC D", .reg, 194, 2, 8, none⟩
  | .rlcE => some ⟨"RLC E", .reg, 194, 2, 8, none⟩
  | .rlcH => some ⟨"RLC H", .reg, 194, 2, 8, none⟩
  | .rlcL => some ⟨"RLC L", .reg, 194, 2, 8, none⟩
  | .rlcAtHl => some ⟨"RLC (HL)", .mem, 195, 2, 16, none⟩
  | .rlcA => some ⟨"RLC A", .reg, 194, 2, 8, none⟩
  | .rrcB => some ⟨"RRC B", .reg, 196, 2, 8, none⟩
  | .rrcC => some ⟨"RRC C", .reg, 196, 2, 8, none⟩
  | .rrcD => some ⟨"RRC D", .reg, 196, 2, 8, none⟩
  | .rrcE => some ⟨"RRC E", .reg, 196, 2, 8, none⟩
  | .rrcH => some ⟨"RRC H", .reg, 196, 2, 8, none⟩
  | .rrcL => some ⟨"RRC L", .reg, 196, 2, 8, none⟩
  | .rrcAtHl => some ⟨"RRC (HL)", .mem, 197, 2, 16, none⟩
  | .rrcA => some ⟨"RRC A", .reg, 196, 2, 8, none⟩
  | .rlB => some ⟨"RL B", .reg, 198, 2, 8, none⟩
  | .rlC => some ⟨"RL C", .reg, 198, 2, 8, none⟩
  | .rlD => some ⟨"RL D", .reg, 198, 2, 8, none⟩
  | .rlE => some ⟨"RL E", .reg, 198, 2, 8, none⟩
  | .rlH => some ⟨"RL H", .reg, 198, 2, 8, none⟩
  | .rlL => some ⟨"RL L", .reg, 198, 2, 8, none⟩
  | .rlAtHl => some ⟨"RL (HL)", .mem, 199, 2, 16, none⟩
  | .rlA => some ⟨"RL A", .reg, 198, 2, 8, none⟩
  | .rrB => some ⟨"RR B", .reg, 200, 2, 8, none⟩
  | .rrC => some ⟨"RR C", .reg, 200, 2, 8, none⟩
  | .rrD => some ⟨"RR D", .reg, 200, 2, 8, none⟩
  | .rrE => some ⟨"RR E", .reg, 200, 2, 8, none⟩
  | .rrH => some ⟨"RR H", .reg, 200, 2, 8, none⟩
  | .rrL => some ⟨"RR L", .reg, 200, 2, 8, none⟩
  | .rrAtHl => some ⟨"RR (HL)", .mem, 201, 2, 16, none⟩
  | .rrA => some ⟨"RR A", .reg, 200, 2, 8, none⟩
  | .slaB => some ⟨"SLA B", .reg, 202, 2, 8, none⟩
  | .slaC => some ⟨"SLA C", .reg, 202, 2, 8, none⟩
  | .slaD => some ⟨"SLA D", .reg, 202, 2, 8, none⟩
  | .slaE => some ⟨"SLA E", .reg, 202, 2, 8, none⟩
  | .slaH => some ⟨"SLA H", .reg, 202, 2, 8, none⟩
  | .slaL => some ⟨"SLA L", .reg, 202, 2, 8, none⟩
  | .slaAtHl => some ⟨"SLA (HL)", .mem, 203, 2, 16, none⟩
  | .slaA => some ⟨"SLA A", .reg, 202, 2, 8, none⟩
  | .sraB => some ⟨"SRA B", .reg, 204, 2, 8, none⟩
  | .sraC => some ⟨"SRA C", .reg, 204, 2, 8, none⟩
  | .sraD => some ⟨"SRA D", .reg, 204, 2, 8, none⟩
  | .sraE => some ⟨"SRA E", .reg, 204, 2, 8, none⟩
  | .sraH => some ⟨"SRA H", .reg, 204, 2, 8, none⟩
  | .sraL => some ⟨"SRA L", .reg, 204, 2, 8, none⟩
  | .sraAtHl => some ⟨"SRA (HL)", .mem, 205, 2, 16, none⟩
  | .sraA => some ⟨"SRA A", .reg, 204, 2, 8, none⟩
  | .swapB => some ⟨"SWAP B", .reg, 206, 2, 8, none⟩
  | .swapC => some ⟨"SWAP C", .reg, 206, 2, 8, none⟩
  | .swapD => some ⟨"SWAP D", .reg, 206, 2, 8, none⟩
  | .swapE => some ⟨"SWAP E", .reg, 206, 2, 8, none⟩
  | .swapH => some ⟨"SWAP H", .reg, 206, 2, 8, none⟩
  | .swapL => some ⟨"SWAP L", .reg, 206, 2, 8, none⟩
  | .swapAtHl => some ⟨"SWAP (HL)", .mem, 207, 2, 16, none⟩
  | .swapA => some ⟨"SWAP A", .reg, 206, 2, 8, none⟩
  | .srlB => some ⟨"SRL B", .reg, 208, 2, 8, none⟩
  | .srlC => some ⟨"SRL C", .reg, 208, 2, 8, none⟩
  | .srlD => some ⟨"SRL D", .reg, 208, 2, 8, none⟩
  | .srlE => some ⟨"SRL E", .reg, 208, 2, 8, none⟩
  | .srlH => some ⟨"SRL H", .reg, 208, 2, 8, none⟩
  | .srlL => some ⟨"SRL L", .reg, 208, 2, 8, none⟩
  | .srlAtHl => some ⟨"SRL (HL)", .mem, 209, 2, 16, none⟩
  | .srlA => some ⟨"SRL A", .reg, 208, 2, 8, none⟩
  | .bit0B => some ⟨"BIT 0,B", .reg, 210, 2, 8, none⟩
  | .bit0C => some ⟨"BIT 0,C", .reg, 210, 2, 8, none⟩
  | .bit0D => some ⟨"BIT 0,D", .reg, 210, 2, 8, none⟩
  | .bit0E => some ⟨"BIT 0,E", .reg, 210, 2, 8, none⟩
  | .bit0H => some ⟨"BIT 0,H", .reg, 210, 2, 8, none⟩
  | .bit0L => some ⟨"BIT 0,L", .reg, 210, 2, 8, none⟩
  | .bit0AtHl => some ⟨"BIT 0,(HL)", .mem, 211, 2, 12, none⟩
  | .bit0A => some ⟨"BIT 0,A", .reg, 210, 2, 8, none⟩
  | .bit1B => some ⟨"BIT 1,B", .reg, 210, 2, 8, none⟩
  | .bit1C => some ⟨"BIT 1,C", .reg, 210, 2, 8, none⟩
  | .bit1D => some ⟨"BIT 1,D", .reg, 210, 2, 8, none⟩
  | .bit1E => some ⟨"BIT 1,E", .reg, 210, 2, 8, none⟩
  | .bit1H => some ⟨"BIT 1,H", .reg, 210, 2, 8, none⟩
  | .bit1L => some ⟨"BIT 1,L", .reg, 210, 2, 8, none⟩
  | .bit1AtHl => some ⟨"BIT 1,(HL)", .mem, 211, 2, 12, none⟩
  | .bit1A => some ⟨"BIT 1,A", .reg, 210, 2, 8, none⟩
  | .bit2B => some ⟨"BIT 2,B", .reg, 210, 2, 8, none⟩
  | .bit2C => some ⟨"BIT 2,C", .reg, 210, 2, 8, none⟩
  | .bit2D => some ⟨"BIT 2,D", .reg, 210, 2, 8, none⟩
  | .bit2E => some ⟨"BIT 2,E", .reg, 210, 2, 8, none⟩
  | .bit2H => some ⟨"BIT 2,H", .reg, 210, 2, 8, none⟩
  | .bit2L => some ⟨"BIT 2,L", .reg, 210, 2, 8, none⟩
  | .bit2AtHl => some ⟨"BIT 2,(HL)", .mem, 211, 2, 12, none⟩
  | .bit2A => some ⟨"BIT 2,A", .reg, 210, 2, 8, none⟩
  | .bit3B => some ⟨"BIT 3,B", .reg, 210, 2, 8, none⟩
  | .bit3C => some ⟨"BIT 3,C", .reg, 210, 2, 8, none⟩
  | .bit3D => some ⟨"BIT 3,D", .reg, 210, 2, 8, none⟩
  | .bit3E => some ⟨"BIT 3,E", .reg, 210, 2, 8, none⟩
  | .bit3H => some ⟨"BIT 3,H", .reg, 210, 2, 8, none⟩
  | .bit3L => some ⟨"BIT 3,L", .reg, 210, 2, 8, none⟩
  | .bit3AtHl => some ⟨"BIT 3,(HL)", .mem, 211, 2, 12, none⟩
  | .bit3A => some ⟨"BIT 3,A", .reg, 210, 2, 8, none⟩
  | .bit4B => some ⟨"BIT 4,B", .reg, 210, 2, 8, none⟩
  | .bit4C => some ⟨"BIT 4,C", .reg, 210, 2, 8, none⟩
  | .bit4D => some ⟨"BIT 4,D", .reg, 210, 2, 8, none⟩
  | .bit4E => some ⟨"BIT 4,E", .reg, 210, 2, 8, none⟩
  | .bit4H => some ⟨"BIT 4,H", .reg, 210, 2, 8, none⟩
  | .bit4L => some ⟨"BIT 4,L", .reg, 210, 2, 8, none⟩
  | .bit4AtHl => some ⟨"BIT 4,(HL)", .mem, 211, 2, 12, none⟩
  | .bit4A => some ⟨"BIT 4,A", .reg, 210, 2, 8, none⟩
  | .bit5B => some ⟨"BIT 5,B", .reg, 210, 2, 8, none⟩
  | .bit5C => some ⟨"BIT 5,C", .reg, 210, 2, 8, none⟩
  | .bit5D => some ⟨"BIT 5,D", .reg, 210, 2, 8, none⟩
  | .bit5E => some ⟨"BIT 5,E", .reg, 210, 2, 8, none⟩
  | .bit5H => some ⟨"BIT 5,H", .reg, 210, 2, 8, none⟩
  | .bit5L => some ⟨"BIT 5,L", .reg, 210, 2, 8, none⟩
  | .bit5AtHl => some ⟨"BIT 5,(HL)", .mem, 211, 2, 12, none⟩
  | .bit5A => some ⟨"BIT 5,A", .reg, 210, 2, 8, none⟩
  | .bit6B => some ⟨"BIT 6,B", .reg, 210, 2, 8, none⟩
  | .bit6C => some ⟨"BIT 6,C", .reg, 210, 2, 8, none⟩
  | .bit6D => some ⟨"BIT 6,D", .reg, 210, 2, 8, none⟩
  | .bit6E => some ⟨"BIT 6,E", .reg, 210, 2, 8, none⟩
  | .bit6H => some ⟨"BIT 6,H", .reg, 210, 2, 8, none⟩
  | .bit6L => some ⟨"BIT 6,L", .reg, 210, 2, 8, none⟩
  | .bit6AtHl => some ⟨"BIT 6,(HL)", .mem, 211, 2, 12, none⟩
  | .bit6A => some ⟨"BIT 6,A", .reg, 210, 2, 8, none⟩
  | .bit7B => some ⟨"BIT 7,B", .reg, 210, 2, 8, none⟩
  | .bit7C => some ⟨"BIT 7,C", .reg, 210, 2, 8, none⟩
  | .bit7D => some ⟨"BIT 7,D", .reg, 210, 2, 8, none⟩
  | .bit7E => some ⟨"BIT 7,E", .reg, 210, 2, 8, none⟩
  | .bit7H => some ⟨"BIT 7,H", .reg, 210, 2, 8, none⟩
  | .bit7L => some ⟨"BIT 7,L", .reg, 210, 2, 8, none⟩
  | .bit7AtHl => some ⟨"BIT 7,(HL)", .mem, 211, 2, 12, none⟩
  | .bit7A => some ⟨"BIT 7,A", .reg, 210, 2, 8, none⟩
  | .res0B => some ⟨"RES 0,B", .reg, 212, 2, 8, none⟩
  | .res0C => some ⟨"RES 0,C", .reg, 212, 2, 8, none⟩
  | .res0D => some ⟨"RES 0,D", .reg, 212, 2, 8, none⟩
  | .res0E => some ⟨"RES 0,E", .reg, 212, 2, 8, none⟩
  | .res0H => some ⟨"RES 0,H", .reg, 212, 2, 8, none⟩
  | .res0L => some ⟨"RES 0,L", .reg, 212, 2, 8, none⟩
  | .res0AtHl => some ⟨"RES 0,(HL)", .mem, 213, 2, 16, none⟩
  | .res0A => some ⟨"RES 0,A", .reg, 212, 2, 8, none⟩
  | .res1B => some ⟨"RES 1,B", .reg, 212, 2, 8, none⟩
  | .res1C => some ⟨"RES 1,C", .reg, 212, 2, 8, none⟩
  | .res1D => some ⟨"RES 1,D", .reg, 212, 2, 8, none⟩
  | .res1E => some ⟨"RES 1,E", .reg, 212, 2, 8, none⟩
  | .res1H => some ⟨"RES 1,H", .reg, 212, 2, 8, none⟩
  | .res1L => some ⟨"RES 1,L", .reg, 212, 2, 8, none⟩
  | .res1AtHl => some ⟨"RES 1,(HL)", .mem, 213, 2, 16, none⟩
  | .res1A => some ⟨"RES 1,A", .reg, 212, 2, 8, none⟩
  | .res2B => some ⟨"RES 2,B", .reg, 212, 2, 8, none⟩
  | .res2C => some ⟨"RES 2,C", .reg, 212, 2, 8, none⟩
  | .res2D => some ⟨"RES 2,D", .reg, 212, 2, 8, none⟩
  | .res2E => some ⟨"RES 2,E", .reg, 212, 2, 8, none⟩
  | .res2H => some ⟨"RES 2,H", .reg, 212, 2, 8, none⟩
  | .res2L => some ⟨"RES 2,L", .reg, 212, 2, 8, none⟩
  | .res2AtHl => some ⟨"RES 2,(HL)", .mem, 213, 2, 16, none⟩
  | .res2A => some ⟨"RES 2,A", .reg, 212, 2, 8, none⟩
  | .res3B => some ⟨"RES 3,B", .reg, 212, 2, 8, none⟩
  | .res3C => some ⟨"RES 3,C", .reg, 212, 2, 8, none⟩
  | .res3D => some ⟨"RES 3,D", .reg, 212, 2, 8, none⟩
  | .res3E => some ⟨"RES 3,E", .reg, 212, 2, 8, none⟩
  | .res3H => some ⟨"RES 3,H", .reg, 212, 2, 8, none⟩
  | .res3L => some ⟨"RES 3,L", .reg, 212, 2, 8, none⟩
  | .res3AtHl => some ⟨"RES 3,(HL)", .mem, 213, 2, 16, none⟩
  | .res3A => some ⟨"RES 3,A", .reg, 212, 2, 8, none⟩
  | .res4B => some ⟨"RES 4,B", .reg, 212, 2, 8, none⟩
  | .res4C => some ⟨"RES 4,C", .reg, 212, 2, 8, none⟩
  | .res4D => some ⟨"RES 4,D", .reg, 212, 2, 8, none⟩
  | .res4E => some ⟨"RES 4,E", .reg, 212, 2, 8, none⟩
  | .res4H => some ⟨"RES 4,H", .reg, 212, 2, 8, none⟩
  | .res4L => some ⟨"RES 4,L", .reg, 212, 2, 8, none⟩
  | .res4AtHl => some ⟨"RES 4,(HL)", .mem, 213, 2, 16, none⟩
  | .res4A => some ⟨"RES 4,A", .reg, 212, 2, 8, none⟩
  | .res5B => some ⟨"RES 5,B", .reg, 212, 2, 8, none⟩
  | .res5C => some ⟨"RES 5,C", .reg, 212, 2, 8, none⟩
  | .res5D => some ⟨"RES 5,D", .reg, 212, 2, 8, none⟩
  | .res5E => some ⟨"RES 5,E", .reg, 212, 2, 8, none⟩
  | .res5H => some ⟨"RES 5,H", .reg, 212, 2, 8, none⟩
  | .res5L => some ⟨"RES 5,L", .reg, 212, 2, 8, none⟩
  | .res5AtHl => some ⟨"RES 5,(HL)", .mem, 213, 2, 16, none⟩
  | .res5A => some ⟨"RES 5,A", .reg, 212, 2, 8, none⟩
  | .res6B => some ⟨"RES 6,B", .reg, 212, 2, 8, none⟩
  | .res6C => some ⟨"RES 6,C", .reg, 212, 2, 8, none⟩
  | .res6D => some ⟨"RES 6,D", .reg, 212, 2, 8, none⟩
  | .res6E => some ⟨"RES 6,E", .reg, 212, 2, 8, none⟩
  | .res6H => some ⟨"RES 6,H", .reg, 212, 2, 8, none⟩
  | .res6L => some ⟨"RES 6,L", .reg, 212, 2, 8, none⟩
  | .res6AtHl => some ⟨"RES 6,(HL)", .mem, 213, 2, 16, none⟩
  | .res6A => some ⟨"RES 6,A", .reg, 212, 2, 8, none⟩
  | .res7B => some ⟨"RES 7,B", .reg, 212, 2, 8, none⟩
  | .res7C => some ⟨"RES 7,C", .reg, 212, 2, 8, none⟩
  | .res7D => some ⟨"RES 7,D", .reg, 212, 2, 8, none⟩
  | .res7E => some ⟨"RES 7,E", .reg, 212, 2, 8, none⟩
  | .res7H => some ⟨"RES 7,H", .reg, 212, 2, 8, none⟩
  | .res7L => some ⟨"RES 7,L", .reg, 212, 2, 8, none⟩
  | .res7AtHl => some ⟨"RES 7,(HL)", .mem, 213, 2, 16, none⟩
  | .res7A => some ⟨"RES 7,A", .reg, 212, 2, 8, none⟩
  | .set0B => some ⟨"SET 0,B", .reg, 214, 2, 8, none⟩
  | .set0C => some ⟨"SET 0,C", .reg, 214, 2, 8, none⟩
  | .set0D => some ⟨"SET 0,D", .reg, 214, 2, 8, none⟩
  | .set0E => some ⟨"SET 0,E", .reg, 214, 2, 8, none⟩
  | .set0H => some ⟨"SET 0,H", .reg, 214, 2, 8, none⟩
  | .set0L => some ⟨"SET 0,L", .reg, 214, 2, 8, none⟩
  | .set0AtHl => some ⟨"SET 0,(HL)", .mem, 215, 2, 16, none⟩
  | .set0A => some ⟨"SET 0,A", .reg, 214, 2, 8, none⟩
  | .set1B => some ⟨"SET 1,B", .reg, 214, 2, 8, none⟩
  | .set1C => some ⟨"SET 1,C", .reg, 214, 2, 8, none⟩
  | .set1D => some ⟨"SET 1,D", .reg, 214, 2, 8, none⟩
  | .set1E => some ⟨"SET 1,E", .reg, 214, 2, 8, none⟩
  | .set1H => some ⟨"SET 1,H", .reg, 214, 2, 8, none⟩
  | .set1L => some ⟨"SET 1,L", .reg, 214, 2, 8, none⟩
  | .set1AtHl => some ⟨"SET 1,(HL)", .mem, 215, 2, 16, none⟩
  | .set1A => some ⟨"SET 1,A", .reg, 214, 2, 8, none⟩
  | .set2B => some ⟨"SET 2,B", .reg, 214, 2, 8, none⟩
  | .set2C => some ⟨"SET 2,C", .reg, 214, 2, 8, none⟩
  | .set2D => some ⟨"SET 2,D", .reg, 214, 2, 8, none⟩
  | .set2E => some ⟨"SET 2,E", .reg, 214, 2, 8, none⟩
  | .set2H => some ⟨"SET 2,H", .reg, 214, 2, 8, none⟩
  | .set2L => some ⟨"SET 2,L", .reg, 214, 2, 8, none⟩
  | .set2AtHl => some ⟨"SET 2,(HL)", .mem, 215, 2, 16, none⟩
  | .set2A => some ⟨"SET 2,A", .reg, 214, 2, 8, none⟩
  | .set3B => some ⟨"SET 3,B", .reg, 214, 2, 8, none⟩
  | .set3C => some ⟨"SET 3,C", .reg, 214, 2, 8, none⟩
  | .set3D => some ⟨"SET 3,D", .reg, 214, 2, 8, none⟩
  | .set3E => some ⟨"SET 3,E", .reg, 214, 2, 8, none⟩
  | .set3H => some ⟨"SET 3,H", .reg, 214, 2, 8, none⟩
  | .set3L => some ⟨"SET 3,L", .reg, 214, 2, 8, none⟩
  | .set3AtHl => some ⟨"SET 3,(HL)", .mem, 215, 2, 16, none⟩
  | .set3A => some ⟨"SET 3,A", .reg, 214, 2, 8, none⟩
  | .set4B => some ⟨"SET 4,B", .reg, 214, 2, 8, none⟩
  | .set4C => some ⟨"SET 4,C", .reg, 214, 2, 8, none⟩
  | .set4D => some ⟨"SET 4,D", .reg, 214, 2, 8, none⟩
  | .set4E => some ⟨"SET 4,E", .reg, 214, 2, 8, none⟩
  | .set4H => some ⟨"SET 4,H", .reg, 214, 2, 8, none⟩
  | .set4L => some ⟨"SET 4,L", .reg, 214, 2, 8, none⟩
  | .set4AtHl => some ⟨"SET 4,(HL)", .mem, 215, 2, 16, none⟩
  | .set4A => some ⟨"SET 4,A", .reg, 214, 2, 8, none⟩
  | .set5B => some ⟨"SET 5,B", .reg, 214, 2, 8, none⟩
  | .set5C => some ⟨"SET 5,C", .reg, 214, 2, 8, none⟩
  | .set5D => some ⟨"SET 5,D", .reg, 214, 2, 8, none⟩
  | .set5E => some ⟨"SET 5,E", .reg, 214, 2, 8, none⟩
  | .set5H => some ⟨"SET 5,H", .reg, 214, 2, 8, none⟩
  | .set5L => some ⟨"SET 5,L", .reg, 214, 2, 8, none⟩
  | .set5AtHl => some ⟨"SET 5,(HL)", .mem, 215, 2, 16, none⟩
  | .set5A => some ⟨"SET 5,A", .reg, 214, 2, 8, none⟩
  | .set6B => some ⟨"SET 6,B", .reg, 214, 2, 8, none⟩
  | .set6C => some ⟨"SET 6,C", .reg, 214, 2, 8, none⟩
  | .set6D => some ⟨"SET 6,D", .reg, 214, 2, 8, none⟩
  | .set6E => some ⟨"SET 6,E", .reg, 214, 2, 8, none⟩
  | .set6H => some ⟨"SET 6,H", .reg, 214, 2, 8, none⟩
  | .set6L => some ⟨"SET 6,L", .reg, 214, 2, 8, none⟩
  | .set6AtHl => some ⟨"SET 6,(HL)", .mem, 215, 2, 16, none⟩
  | .set6A => some ⟨"SET 6,A", .reg, 214, 2, 8, none⟩
  | .set7B => some ⟨"SET 7,B", .reg, 214, 2, 8, none⟩
  | .set7C => some ⟨"SET 7,C", .reg, 214, 2, 8, none⟩
  | .set7D => some ⟨"SET 7,D", .reg, 214, 2, 8, none⟩
  | .set7E => some ⟨"SET 7,E", .reg, 214, 2, 8, none⟩
  | .set7H => some ⟨"SET 7,H", .reg, 214, 2, 8, none⟩
  | .set7L => some ⟨"SET 7,L", .reg, 214, 2, 8, none⟩
  | .set7AtHl => some ⟨"SET 7,(HL)", .mem, 215, 2, 16, none⟩
  | .set7A => some ⟨"SET 7,A", .reg, 214, 2, 8, none⟩
  | .illegal _ => none

/-- Bytes an instruction occupies (R72); an undefined byte counts as 1, as in the disassembler (R82). -/
def Instr.length (i : Instr) : Nat :=
  match i.desc with
  | some d => d.length
  | none => 1

/-- Why a list of bytes holds no instruction: it is empty, or it ends inside the instruction. -/
inductive DecodeError where
  | noBytes
  | truncated (first : Byte)
  deriving DecidableEq, Repr

/-- Decode the instruction at the head of a list of bytes and give back the rest. -/
def decode : List Byte → Except DecodeError (Instr × List Byte)
  | [] => .error .noBytes
  | b0 :: rest =>
    let i := decodeBytes b0 (rest.getD 0 0) (rest.getD 1 0)
    if rest.length + 1 < i.length then .error (.truncated b0)
    else .ok (i, rest.drop (i.length - 1))

/-- The bytes of an instruction, lowest address first, from its row of the opcode table (R73, R74, R85). -/
def encode (i : Instr) : List Byte :=
  match i with
  | .nop => [0x00]
  | .ldBcD16 w => [0x01, loByte w, hiByte w]
  | .ldAtBcA => [0x02]
  | .incBc => [0x03]
  | .incB => [0x04]
  | .decB => [0x05]
  | .ldBD8 n => [0x06, n]
  | .rlca => [0x07]
  | .ldAtA16Sp w => [0x08, loByte w, hiByte w]
  | .addHlBc => [0x09]
  | .ldAAtBc => [0x0A]
  | .decBc => [0x0B]
  | .incC => [0x0C]
  | .decC => [0x0D]
  | .ldCD8 n => [0x0E, n]
  | .rrca => [0x0F]
  | .stop pad => [0x10, pad]
  | .ldDeD16 w => [0x11, loByte w, hiByte w]
  | .ldAtDeA => [0x12]
  | .incDe => [0x13]
  | .incD => [0x14]
  | .decD => [0x15]
  | .ldDD8 n => [0x16, n]
  | .rla => [0x17]
  | .jrR8 e => [0x18, e]
  | .addHlDe => [0x19]
  | .ldAAtDe => [0x1A]
  | .decDe => [0x1B]
  | .incE => [0x1C]
  | .decE => [0x1D]
  | .ldED8 n => [0x1E, n]
  | .rra => [0x1F]
  | .jrNzR8 e => [0x20, e]
  | .ldHlD16 w => [0x21, loByte w, hiByte w]
  | .ldAtHlIncA => [0x22]
  | .incHl => [0x23]
  | .incH => [0x24]
  | .decH => [0x25]
  | .ldHD8 n => [0x26, n]
  | .daa => [0x27]
  | .jrZR8 e => [0x28, e]
  | .addHlHl => [0x29]
  | .ldAAtHlInc => [0x2A]
  | .decHl => [0x2B]
  | .incL => [0x2C]
  | .decL => [0x2D]
  | .ldLD8 n => [0x2E, n]
  | .cpl => [0x2F]
  | .jrNcR8 e => [0x30, e]
  | .ldSpD16 w => [0x31, loByte w, hiByte w]
  | .ldAtHlDecA => [0x32]
  | .incSp => [0x33]
  | .incAtHl => [0x34]
  | .decAtHl => [0x35]
  | .ldAtHlD8 n => [0x36, n]
  | .scf => [0x37]
  | .jrCR8 e => [0x38, e]
  | .addHlSp => [0x39]
  | .ldAAtHlDec => [0x3A]
  | .decSp => [0x3B]
  | .incA => [0x3C]
  | .decA => [0x3D]
  | .ldAD8 n => [0x3E, n]
  | .ccf => [0x3F]
  | .ldBB => [0x40]
  | .ldBC => [0x41]
  | .ldBD => [0x42]
  | .ldBE => [0x43]
  | .ldBH => [0x44]
  | .ldBL => [0x45]
  | .ldBAtHl => [0x46]
  | .ldBA => [0x47]
  | .ldCB => [0x48]
  | .ldCC => [0x49]
  | .ldCD => [0x4A]
  | .ldCE => [0x4B]
  | .ldCH => [0x4C]
  | .ldCL => [0x4D]
  | .ldCAtHl => [0x4E]
  | .ldCA => [0x4F]
  | .ldDB => [0x50]
  | .ldDC => [0x51]
  | .ldDD => [0x52]
  | .ldDE => [0x53]
  | .ldDH => [0x54]
  | .ldDL => [0x55]
  | .ldDAtHl => [0x56]
  | .ldDA => [0x57]
  | .ldEB => [0x58]
  | .ldEC => [0x59]
  | .ldED => [0x5A]
  | .ldEE => [0x5B]
  | .ldEH => [0x5C]
  | .ldEL => [0x5D]
  | .ldEAtHl => [0x5E]
  | .ldEA => [0x5F]
  | .ldHB => [0x60]
  | .ldHC => [0x61]
  | .ldHD => [0x62]
  | .ldHE => [0x63]
  | .ldHH => [0x64]
  | .ldHL => [0x65]
  | .ldHAtHl => [0x66]
  | .ldHA => [0x67]
  | .ldLB => [0x68]
  | .ldLC => [0x69]
  | .ldLD => [0x6A]
  | .ldLE => [0x6B]
  | .ldLH => [0x6C]
  | .ldLL => [0x6D]
  | .ldLAtHl => [0x6E]
  | .ldLA => [0x6F]
  | .ldAtHlB => [0x70]
  | .ldAtHlC => [0x71]
  | .ldAtHlD => [0x72]
  | .ldAtHlE => [0x73]
  | .ldAtHlH => [0x74]
  | .ldAtHlL => [0x75]
  | .halt => [0x76]
  | .ldAtHlA => [0x77]
  | .ldAB => [0x78]
  | .ldAC => [0x79]
  | .ldAD => [0x7A]
  | .ldAE => [0x7B]
  | .ldAH => [0x7C]
  | .ldAL => [0x7D]
  | .ldAAtHl => [0x7E]
  | .ldAA => [0x7F]
  | .addAB => [0x80]
  | .addAC => [0x81]
  | .addAD => [0x82]
  | .addAE => [0x83]
  | .addAH => [0x84]
  | .addAL => [0x85]
  | .addAAtHl => [0x86]
  | .addAA => [0x87]
  | .adcAB => [0x88]
  | .adcAC => [0x89]
  | .adcAD => [0x8A]
  | .adcAE => [0x8B]
  | .adcAH => [0x8C]
  | .adcAL => [0x8D]
  | .adcAAtHl => [0x8E]
  | .adcAA => [0x8F]
  | .subB => [0x90]
  | .subC => [0x91]
  | .subD => [0x92]
  | .subE => [0x93]
  | .subH => [0x94]
  | .subL => [0x95]
  | .subAtHl => [0x96]
  | .subA => [0x97]
  | .sbcAB => [0x98]
  | .sbcAC => [0x99]
  | .sbcAD => [0x9A]
  | .sbcAE => [0x9B]
  | .sbcAH => [0x9C]
  | .sbcAL => [0x9D]
  | .sbcAAtHl => [0x9E]
  | .sbcAA => [0x9F]
  | .andB => [0xA0]
  | .andC => [0xA1]
  | .andD => [0xA2]
  | .andE => [0xA3]
  | .andH => [0xA4]
  | .andL => [0xA5]
  | .andAtHl => [0xA6]
  | .andA => [0xA7]
  | .xorB => [0xA8]
  | .xorC => [0xA9]
  | .xorD => [0xAA]
  | .xorE => [0xAB]
  | .xorH => [0xAC]
  | .xorL => [0xAD]
  | .xorAtHl => [0xAE]
  | .xorA => [0xAF]
  | .orB => [0xB0]
  | .orC => [0xB1]
  | .orD => [0xB2]
  | .orE => [0xB3]
  | .orH => [0xB4]
  | .orL => [0xB5]
  | .orAtHl => [0xB6]
  | .orA => [0xB7]
  | .cpB => [0xB8]
  | .cpC => [0xB9]
  | .cpD => [0xBA]
  | .cpE => [0xBB]
  | .cpH => [0xBC]
  | .cpL => [0xBD]
  | .cpAtHl => [0xBE]
  | .cpA => [0xBF]
  | .retNz => [0xC0]
  | .popBc => [0xC1]
  | .jpNzA16 w => [0xC2, loByte w, hiByte w]
  | .jpA16 w => [0xC3, loByte w, hiByte w]
  | .callNzA16 w => [0xC4, loByte w, hiByte w]
  | .pushBc => [0xC5]
  | .addAD8 n => [0xC6, n]
  | .rst00 => [0xC7]
  | .retZ => [0xC8]
  | .ret => [0xC9]
  | .jpZA16 w => [0xCA, loByte w, hiByte w]
  | .callZA16 w => [0xCC, loByte w, hiByte w]
  | .callA16 w => [0xCD, loByte w, hiByte w]
  | .adcAD8 n => [0xCE, n]
  | .rst08 => [0xCF]
  | .retNc => [0xD0]
  | .popDe => [0xD1]
  | .jpNcA16 w => [0xD2, loByte w, hiByte w]
  | .callNcA16 w => [0xD4, loByte w, hiByte w]
  | .pushDe => [0xD5]
  | .subD8 n => [0xD6, n]
  | .rst10 => [0xD7]
  | .retC => [0xD8]
  | .reti => [0xD9]
  | .jpCA16 w => [0xDA, loByte w, hiByte w]
  | .callCA16 w => [0xDC, loByte w, hiByte w]
  | .sbcAD8 n => [0xDE, n]
  | .rst18 => [0xDF]
  | .ldhAtA8A n => [0xE0, n]
  | .popHl => [0xE1]
  | .ldAtCA => [0xE2]
  | .pushHl => [0xE5]
  | .andD8 n => [0xE6, n]
  | .rst20 => [0xE7]
  | .addSpR8 e => [0xE8, e]
  | .jpAtHl => [0xE9]
  | .ldAtA16A w => [0xEA, loByte w, hiByte w]
  | .xorD8 n => [0xEE, n]
  | .rst28 => [0xEF]
  | .ldhAAtA8 n => [0xF0, n]
  | .popAf => [0xF1]
  | .ldAAtC => [0xF2]
  | .di => [0xF3]
  | .pushAf => [0xF5]
  | .orD8 n => [0xF6, n]
  | .rst30 => [0xF7]
  | .ldHlSpR8 e => [0xF8, e]
  | .ldSpHl => [0xF9]
  | .ldAAtA16 w => [0xFA, loByte w, hiByte w]
  | .ei => [0xFB]
  | .cpD8 n => [0xFE, n]
  | .rst38 => [0xFF]
  | .rlcB => [0xCB, 0x00]
  | .rlcC => [0xCB, 0x01]
  | .rlcD => [0xCB, 0x02]
  | .rlcE => [0xCB, 0x03]
  | .rlcH => [0xCB, 0x04]
  | .rlcL => [0xCB, 0x05]
  | .rlcAtHl => [0xCB, 0x06]
  | .rlcA => [0xCB, 0x07]
  | .rrcB => [0xCB, 0x08]
  | .rrcC => [0xCB, 0x09]
  | .rrcD => [0xCB, 0x0A]
  | .rrcE => [0xCB, 0x0B]
  | .rrcH => [0xCB, 0x0C]
  | .rrcL => [0xCB, 0x0D]
  | .rrcAtHl => [0xCB, 0x0E]
  | .rrcA => [0xCB, 0x0F]
  | .rlB => [0xCB, 0x10]
  | .rlC => [0xCB, 0x11]
  | .rlD => [0xCB, 0x12]
  | .rlE => [0xCB, 0x13]
  | .rlH => [0xCB, 0x14]
  | .rlL => [0xCB, 0x15]
  | .rlAtHl => [0xCB, 0x16]
  | .rlA => [0xCB, 0x17]
  | .rrB => [0xCB, 0x18]
  | .rrC => [0xCB, 0x19]
  | .rrD => [0xCB, 0x1A]
  | .rrE => [0xCB, 0x1B]
  | .rrH => [0xCB, 0x1C]
  | .rrL => [0xCB, 0x1D]
  | .rrAtHl => [0xCB, 0x1E]
  | .rrA => [0xCB, 0x1F]
  | .slaB => [0xCB, 0x20]
  | .slaC => [0xCB, 0x21]
  | .slaD => [0xCB, 0x22]
  | .slaE => [0xCB, 0x23]
  | .slaH => [0xCB, 0x24]
  | .slaL => [0xCB, 0x25]
  | .slaAtHl => [0xCB, 0x26]
  | .slaA => [0xCB, 0x27]
  | .sraB => [0xCB, 0x28]
  | .sraC => [0xCB, 0x29]
  | .sraD => [0xCB, 0x2A]
  | .sraE => [0xCB, 0x2B]
  | .sraH => [0xCB, 0x2C]
  | .sraL => [0xCB, 0x2D]
  | .sraAtHl => [0xCB, 0x2E]
  | .sraA => [0xCB, 0x2F]
  | .swapB => [0xCB, 0x30]
  | .swapC => [0xCB, 0x31]
  | .swapD => [0xCB, 0x32]
  | .swapE => [0xCB, 0x33]
  | .swapH => [0xCB, 0x34]
  | .swapL => [0xCB, 0x35]
  | .swapAtHl => [0xCB, 0x36]
  | .swapA => [0xCB, 0x37]
  | .srlB => [0xCB, 0x38]
  | .srlC => [0xCB, 0x39]
  | .srlD => [0xCB, 0x3A]
  | .srlE => [0xCB, 0x3B]
  | .srlH => [0xCB, 0x3C]
  | .srlL => [0xCB, 0x3D]
  | .srlAtHl => [0xCB, 0x3E]
  | .srlA => [0xCB, 0x3F]
  | .bit0B => [0xCB, 0x40]
  | .bit0C => [0xCB, 0x41]
  | .bit0D => [0xCB, 0x42]
  | .bit0E => [0xCB, 0x43]
  | .bit0H => [0xCB, 0x44]
  | .bit0L => [0xCB, 0x45]
  | .bit0AtHl => [0xCB, 0x46]
  | .bit0A => [0xCB, 0x47]
  | .bit1B => [0xCB, 0x48]
  | .bit1C => [0xCB, 0x49]
  | .bit1D => [0xCB, 0x4A]
  | .bit1E => [0xCB, 0x4B]
  | .bit1H => [0xCB, 0x4C]
  | .bit1L => [0xCB, 0x4D]
  | .bit1AtHl => [0xCB, 0x4E]
  | .bit1A => [0xCB, 0x4F]
  | .bit2B => [0xCB, 0x50]
  | .bit2C => [0xCB, 0x51]
  | .bit2D => [0xCB, 0x52]
  | .bit2E => [0xCB, 0x53]
  | .bit2H => [0xCB, 0x54]
  | .bit2L => [0xCB, 0x55]
  | .bit2AtHl => [0xCB, 0x56]
  | .bit2A => [0xCB, 0x57]
  | .bit3B => [0xCB, 0x58]
  | .bit3C => [0xCB, 0x59]
  | .bit3D => [0xCB, 0x5A]
  | .bit3E => [0xCB, 0x5B]
  | .bit3H => [0xCB, 0x5C]
  | .bit3L => [0xCB, 0x5D]
  | .bit3AtHl => [0xCB, 0x5E]
  | .bit3A => [0xCB, 0x5F]
  | .bit4B => [0xCB, 0x60]
  | .bit4C => [0xCB, 0x61]
  | .bit4D => [0xCB, 0x62]
  | .bit4E => [0xCB, 0x63]
  | .bit4H => [0xCB, 0x64]
  | .bit4L => [0xCB, 0x65]
  | .bit4AtHl => [0xCB, 0x66]
  | .bit4A => [0xCB, 0x67]
  | .bit5B => [0xCB, 0x68]
  | .bit5C => [0xCB, 0x69]
  | .bit5D => [0xCB, 0x6A]
  | .bit5E => [0xCB, 0x6B]
  | .bit5H => [0xCB, 0x6C]
  | .bit5L => [0xCB, 0x6D]
  | .bit5AtHl => [0xCB, 0x6E]
  | .bit5A => [0xCB, 0x6F]
  | .bit6B => [0xCB, 0x70]
  | .bit6C => [0xCB, 0x71]
  | .bit6D => [0xCB, 0x72]
  | .bit6E => [0xCB, 0x73]
  | .bit6H => [0xCB, 0x74]
  | .bit6L => [0xCB, 0x75]
  | .bit6AtHl => [0xCB, 0x76]
  | .bit6A => [0xCB, 0x77]
  | .bit7B => [0xCB, 0x78]
  | .bit7C => [0xCB, 0x79]
  | .bit7D => [0xCB, 0x7A]
  | .bit7E => [0xCB, 0x7B]
  | .bit7H => [0xCB, 0x7C]
  | .bit7L => [0xCB, 0x7D]
  | .bit7AtHl => [0xCB, 0x7E]
  | .bit7A => [0xCB, 0x7F]
  | .res0B => [0xCB, 0x80]
  | .res0C => [0xCB, 0x81]
  | .res0D => [0xCB, 0x82]
  | .res0E => [0xCB, 0x83]
  | .res0H => [0xCB, 0x84]
  | .res0L => [0xCB, 0x85]
  | .res0AtHl => [0xCB, 0x86]
  | .res0A => [0xCB, 0x87]
  | .res1B => [0xCB, 0x88]
  | .res1C => [0xCB, 0x89]
  | .res1D => [0xCB, 0x8A]
  | .res1E => [0xCB, 0x8B]
  | .res1H => [0xCB, 0x8C]
  | .res1L => [0xCB, 0x8D]
  | .res1AtHl => [0xCB, 0x8E]
  | .res1A => [0xCB, 0x8F]
  | .res2B => [0xCB, 0x90]
  | .res2C => [0xCB, 0x91]
  | .res2D => [0xCB, 0x92]
  | .res2E => [0xCB, 0x93]
  | .res2H => [0xCB, 0x94]
  | .res2L => [0xCB, 0x95]
  | .res2AtHl => [0xCB, 0x96]
  | .res2A => [0xCB, 0x97]
  | .res3B => [0xCB, 0x98]
  | .res3C => [0xCB, 0x99]
  | .res3D => [0xCB, 0x9A]
  | .res3E => [0xCB, 0x9B]
  | .res3H => [0xCB, 0x9C]
  | .res3L => [0xCB, 0x9D]
  | .res3AtHl => [0xCB, 0x9E]
  | .res3A => [0xCB, 0x9F]
  | .res4B => [0xCB, 0xA0]
  | .res4C => [0xCB, 0xA1]
  | .res4D => [0xCB, 0xA2]
  | .res4E => [0xCB, 0xA3]
  | .res4H => [0xCB, 0xA4]
  | .res4L => [0xCB, 0xA5]
  | .res4AtHl => [0xCB, 0xA6]
  | .res4A => [0xCB, 0xA7]
  | .res5B => [0xCB, 0xA8]
  | .res5C => [0xCB, 0xA9]
  | .res5D => [0xCB, 0xAA]
  | .res5E => [0xCB, 0xAB]
  | .res5H => [0xCB, 0xAC]
  | .res5L => [0xCB, 0xAD]
  | .res5AtHl => [0xCB, 0xAE]
  | .res5A => [0xCB, 0xAF]
  | .res6B => [0xCB, 0xB0]
  | .res6C => [0xCB, 0xB1]
  | .res6D => [0xCB, 0xB2]
  | .res6E => [0xCB, 0xB3]
  | .res6H => [0xCB, 0xB4]
  | .res6L => [0xCB, 0xB5]
  | .res6AtHl => [0xCB, 0xB6]
  | .res6A => [0xCB, 0xB7]
  | .res7B => [0xCB, 0xB8]
  | .res7C => [0xCB, 0xB9]
  | .res7D => [0xCB, 0xBA]
  | .res7E => [0xCB, 0xBB]
  | .res7H => [0xCB, 0xBC]
  | .res7L => [0xCB, 0xBD]
  | .res7AtHl => [0xCB, 0xBE]
  | .res7A => [0xCB, 0xBF]
  | .set0B => [0xCB, 0xC0]
  | .set0C => [0xCB, 0xC1]
  | .set0D => [0xCB, 0xC2]
  | .set0E => [0xCB, 0xC3]
  | .set0H => [0xCB, 0xC4]
  | .set0L => [0xCB, 0xC5]
  | .set0AtHl => [0xCB, 0xC6]
  | .set0A => [0xCB, 0xC7]
  | .set1B => [0xCB, 0xC8]
  | .set1C => [0xCB, 0xC9]
  | .set1D => [0xCB, 0xCA]
  | .set1E => [0xCB, 0xCB]
  | .set1H => [0xCB, 0xCC]
  | .set1L => [0xCB, 0xCD]
  | .set1AtHl => [0xCB, 0xCE]
  | .set1A => [0xCB, 0xCF]
  | .set2B => [0xCB, 0xD0]
  | .set2C => [0xCB, 0xD1]
  | .set2D => [0xCB, 0xD2]
  | .set2E => [0xCB, 0xD3]
  | .set2H => [0xCB, 0xD4]
  | .set2L => [0xCB, 0xD5]
  | .set2AtHl => [0xCB, 0xD6]
  | .set2A => [0xCB, 0xD7]
  | .set3B => [0xCB, 0xD8]
  | .set3C => [0xCB, 0xD9]
  | .set3D => [0xCB, 0xDA]
  | .set3E => [0xCB, 0xDB]
  | .set3H => [0xCB, 0xDC]
  | .set3L => [0xCB, 0xDD]
  | .set3AtHl => [0xCB, 0xDE]
  | .set3A => [0xCB, 0xDF]
  | .set4B => [0xCB, 0xE0]
  | .set4C => [0xCB, 0xE1]
  | .set4D => [0xCB, 0xE2]
  | .set4E => [0xCB, 0xE3]
  | .set4H => [0xCB, 0xE4]
  | .set4L => [0xCB, 0xE5]
  | .set4AtHl => [0xCB, 0xE6]
  | .set4A => [0xCB, 0xE7]
  | .set5B => [0xCB, 0xE8]
  | .set5C => [0xCB, 0xE9]
  | .set5D => [0xCB, 0xEA]
  | .set5E => [0xCB, 0xEB]
  | .set5H => [0xCB, 0xEC]
  | .set5L => [0xCB, 0xED]
  | .set5AtHl => [0xCB, 0xEE]
  | .set5A => [0xCB, 0xEF]
  | .set6B => [0xCB, 0xF0]
  | .set6C => [0xCB, 0xF1]
  | .set6D => [0xCB, 0xF2]
  | .set6E => [0xCB, 0xF3]
  | .set6H => [0xCB, 0xF4]
  | .set6L => [0xCB, 0xF5]
  | .set6AtHl => [0xCB, 0xF6]
  | .set6A => [0xCB, 0xF7]
  | .set7B => [0xCB, 0xF8]
  | .set7C => [0xCB, 0xF9]
  | .set7D => [0xCB, 0xFA]
  | .set7E => [0xCB, 0xFB]
  | .set7H => [0xCB, 0xFC]
  | .set7L => [0xCB, 0xFD]
  | .set7AtHl => [0xCB, 0xFE]
  | .set7A => [0xCB, 0xFF]
  | .illegal b => [b]

/-- The bytes of a table row's word, lowest address first.  An extended row is written
`(byte0 << 8) | byte1` with byte 0 = 0xCB (R85); any other word is taken low byte first, which for an
8-bit row is the opcode byte itself, the operand bytes above it being 0. -/
def tableWordBytes (nbits w : Nat) : Byte × Byte × Byte :=
  let v := w % 2 ^ nbits
  if nbits = 16 ∧ v / 256 = 0xCB then (0xCB, BitVec.ofNat 8 v, 0)
  else (BitVec.ofNat 8 v, BitVec.ofNat 8 (v / 256), BitVec.ofNat 8 (v / 65536))

/-- The decoder's answer on a word of the opcode table (the bytes above `nbits` are 0). -/
def decodeTableWord (nbits w : Nat) : Option Instr :=
  let p := tableWordBytes nbits w
  match decode [p.1, p.2.1, p.2.2] with
  | .ok (i, _) => some i
  | .error _ => none

end Sys2Proof
end

