-- ==== Sys2Proof/Machine/State.lean ====
section
/-! DEFINITION. The machine's state (R10, with the inputs and outputs of R257) as plain data, the ways a
step can stop, and the state right after reset (R28, R300). -/

namespace Sys2Proof.Machine

/-- The faults of R261, the complete list.  A fault raised by a step is a NEXT state whose `run` is
`faulted f` (R262, log 8); only power-on answers `Host.Outcome.fault`. -/
inductive Fault where
  /-- Raised by the decoder on one of the eleven undefined bytes (R76, R261): recorded in `run` and in
  the step result.  Safe: the spec gives this fault and this state. -/
  | unimplementedOpcode (byte : Byte) (address : Word)
  /-- Named by R261, raised by nothing: every address is 16 bits wide (R45, D7).  Safe. -/
  | invalidAddress (address : Nat)
  /-- Answered by `powerOn` when the host has no boot image (R261, R265).  Safe: the spec gives it.
  DESIGN CHOICE (log 24): R261 records the underlying I/O cause, a host matter with no format given; this
  constructor records no cause. -/
  | bootFileNotFound
  deriving DecidableEq, Repr

/-- Why a step or a power-on has no meaning. -/
inductive Refusal where
  /-- An arm of `exec` without a meaning yet.  Safe. -/
  | notModelled (mnemonic : String)
  /-- `HALT` with `IME` = 0 while the step's `IRQ` sample is `some v`: the spec gives the case no meaning
  (R236, R268).  Raised by `HALT` only.  Safe: the machine stops here. -/
  | haltWithPendingRequest
  /-- A boot image longer than 65536 bytes (R301, R268).  Raised by `powerOn` only.  Safe. -/
  | bootImageTooLong
  deriving DecidableEq, Repr

/-- The run state (R22). -/
inductive RunState where
  | running
  | halted
  | stopped
  | faulted (f : Fault)
  deriving DecidableEq, Repr

/-- The debug unit's mode (R25). -/
inductive DbgMode where
  | paused
  | freeRunning
  deriving DecidableEq, Repr

/-- The step result output (R252, R257). -/
inductive StepResult where
  | ok
  | breakpointHit (pc : Word)
  | fault (f : Fault)
  | waitingForHost
  | ended
  deriving DecidableEq, Repr

/-- The region identifiers of R41. -/
inductive Region where
  | rom0 | romx | vramChr | bgmap1 | bgmap2 | extram | wram | echo | oam | unusable | io | hram
  deriving DecidableEq, Repr

/-- One record `wr(a, v, Region(a))` of the write trace (R58). -/
structure WriteEvent where
  address : Word
  byte : Byte
  region : Region
  deriving DecidableEq, Repr

/-- The four flags (R16).  Bits 3 to 0 of `F` read 0 and ignore writes, so they have no storage. -/
structure Flags where
  z : Bool
  n : Bool
  h : Bool
  c : Bool
  deriving DecidableEq, Repr

/-- The seven general 8-bit registers (R11). -/
structure RegFile where
  b : Byte
  c : Byte
  d : Byte
  e : Byte
  h : Byte
  l : Byte
  a : Byte
  deriving DecidableEq, Repr

/-- The backing store (R24): (address, byte) pairs, addresses strictly rising, no byte 0x00 listed, since
an unlisted address reads 0x00 (R43). -/
abbrev Memory := List Host.Cell

/-- An input port's values to come, as data: none any more, one value and then the rest, or the free input
of the port (an opaque function of `Config`) from its `k`-th value on (R6, R255). -/
inductive Feed (α : Type) where
  | quiet
  | item (x : α) (rest : Feed α)
  | oracle (k : Nat)
  deriving DecidableEq, Repr

/-- The complete state (R10), the parameters a step reads (R6), the inputs still to come and the outputs
of the last step (R257). -/
structure State where
  regs : RegFile
  flags : Flags
  sp : Word
  pc : Word
  mem : Memory
  /-- The cycle accumulator (R23). -/
  clk : Nat
  /-- The interrupt master enable (R20). -/
  ime : Bool
  /-- The delayed effect of `EI` (R21). -/
  imeSched : Bool
  run : RunState
  /-- The breakpoint set, ascending (R25). -/
  bp : List Word
  dbgMode : DbgMode
  /-- The machine's parameters (R6); no step changes them. -/
  params : Params
  /-- Input: the `IRQ` samples to come, this step's first (log 4). -/
  irqIn : Feed (Option Word)
  /-- Input: the host's actions to come, one before each step (log 5). -/
  hostIn : Feed HostCmd
  /-- The host has ended the run with `EXIT` (R256). -/
  exited : Bool
  /-- Output: the write trace, newest event first (R58). -/
  trace : List WriteEvent
  /-- Output: the acknowledge of the last step (R257, R272). -/
  ack : Option Word
  /-- Output: the result of the last step (R257). -/
  result : StepResult
  /-- Output: the cycles of the last step (R253). -/
  cycles : Nat
  deriving DecidableEq, Repr

/-- What a step, a meaning or power-on answers. -/
abbrev Answer := Host.Outcome State Fault Refusal

/-- The state right after power-on with the empty boot image, the default `RESET_REGS` and
`DEBUG_START` = false (R28, R300), no input waiting and nothing put out yet. -/
def State.reset : State where
  regs := { b := 0, c := 0, d := 0, e := 0, h := 0, l := 0, a := 0 }
  flags := { z := false, n := false, h := false, c := false }
  sp := 0
  pc := 0
  mem := []
  clk := 0
  ime := false
  imeSched := false
  run := .running
  bp := []
  dbgMode := .freeRunning
  params := { eiDelay := 1, intCycles := 20, haltTick := 4 }
  irqIn := .quiet
  hostIn := .quiet
  exited := false
  trace := []
  ack := none
  result := .ok
  cycles := 0

end Sys2Proof.Machine
end

