-- ==== Sys2Proof/Machine/Memory.lean ====
section
/-! DEFINITION. The backing store's own operations and canonical form (R24, R43, R44), and the region
table (R41, R42). -/

namespace Sys2Proof.Machine

/-- What an address no store has written and no boot image covers reads as (R43, R300). -/
def unwrittenByte : Byte := 0

/-- The byte at an address. -/
def Memory.read : Memory → Nat → Byte
  | [], _ => unwrittenByte
  | (k, v) :: m, a => if k = a then v else Memory.read m a

/-- Every entry of one address taken out. -/
def Memory.erase : Memory → Nat → Memory
  | [], _ => []
  | (k, v) :: m, a => if k = a then Memory.erase m a else (k, v) :: Memory.erase m a

/-- An entry put before the first entry of a higher address. -/
def Memory.insert : Memory → Nat → Byte → Memory
  | [], a, v => [(a, v)]
  | (k, w) :: m, a, v => if a < k then (a, v) :: (k, w) :: m else (k, w) :: Memory.insert m a v

/-- The store with one byte written, in canonical form. -/
def Memory.write (m : Memory) (a : Nat) (v : Byte) : Memory :=
  if v = unwrittenByte then Memory.erase m a else Memory.insert (Memory.erase m a) a v

/-- Canonical form with every address at least `lo`. -/
def Memory.wfFrom : Nat → Memory → Bool
  | _, [] => true
  | lo, (k, v) :: m => decide (lo ≤ k) && decide (k < 65536) && decide (v ≠ unwrittenByte) && Memory.wfFrom (k + 1) m

/-- The canonical form: addresses strictly rising and 16 bits wide, no listed byte 0x00. -/
def Memory.wf (m : Memory) : Bool := Memory.wfFrom 0 m

/-- The store whose bytes from address `a` upward are the list's. -/
def Memory.ofBytes : Nat → List Byte → Memory
  | _, [] => []
  | a, v :: vs => if v = unwrittenByte then Memory.ofBytes (a + 1) vs else (a, v) :: Memory.ofBytes (a + 1) vs

/-- A row of the region table. -/
structure RegionRow where
  first : Nat
  last : Nat
  region : Region
  deriving DecidableEq, Repr

/-- The region table (R41, boundaries D8, D9). -/
def regionTable : List RegionRow :=
  [⟨0x0000, 0x3FFF, .rom0⟩, ⟨0x4000, 0x7FFF, .romx⟩, ⟨0x8000, 0x97FF, .vramChr⟩,
   ⟨0x9800, 0x9BFF, .bgmap1⟩, ⟨0x9C00, 0x9FFF, .bgmap2⟩, ⟨0xA000, 0xBFFF, .extram⟩,
   ⟨0xC000, 0xDFFF, .wram⟩, ⟨0xE000, 0xFDFF, .echo⟩, ⟨0xFE00, 0xFE9F, .oam⟩,
   ⟨0xFEA0, 0xFEFF, .unusable⟩, ⟨0xFF00, 0xFF7F, .io⟩, ⟨0xFF80, 0xFFFE, .hram⟩,
   ⟨0xFFFF, 0xFFFF, .io⟩]

/-- The region of the first row that holds the address, if one does. -/
def regionIn : List RegionRow → Nat → Option Region
  | [], _ => none
  | r :: rs, a => if r.first ≤ a ∧ a ≤ r.last then some r.region else regionIn rs a

/-- `Region(a)` of R42.  The table leaves no address out, so the default is never used. -/
def regionOf (a : Word) : Region := (regionIn regionTable a.toNat).getD .io

end Sys2Proof.Machine
end

