-- ==== Sys2Proof/Machine/Flags.lean ====
section
/-! DEFINITION. The flag register as a byte (R16) and every flag computation of the spec: the ALU
primitives (R145 to R147), the 16-bit additions (R135, R185, R188), the shifter (R189) and `DAA` (R178). -/

namespace Sys2Proof.Machine

/-- `F` as a byte: Z, N, H, C in bits 7 to 4, bits 3 to 0 always 0 (R16). -/
def Flags.toByte (f : Flags) : Byte :=
  (if f.z then 0x80 else 0) ||| (if f.n then 0x40 else 0) ||| (if f.h then 0x20 else 0) |||
    (if f.c then 0x10 else 0)

/-- The flags a byte written to `F` leaves: its low nibble is dropped (R16, R139). -/
def Flags.ofByte (v : Byte) : Flags :=
  { z := v.getLsbD 7, n := v.getLsbD 6, h := v.getLsbD 5, c := v.getLsbD 4 }

/-- The result and computed flags of an 8-bit operation (R145, R146). -/
structure AluResult where
  res : Byte
  z : Bool
  h : Bool
  c : Bool
  deriving DecidableEq, Repr

/-- `add8(a, b, cin)` (R145). -/
def add8 (a b : Byte) (cin : Bool) : AluResult :=
  let sum : Nat := a.toNat + b.toNat + cin.toNat
  let res : Byte := BitVec.ofNat 8 sum
  { res := res
    z := decide (res = 0)
    h := decide (a.toNat % 16 + b.toNat % 16 + cin.toNat > 0xF)
    c := decide (sum > 0xFF) }

/-- `sub8(a, b, cin)` (R146); `cin` is the incoming borrow. -/
def sub8 (a b : Byte) (cin : Bool) : AluResult :=
  let diff : Int := (a.toNat : Int) - b.toNat - cin.toNat
  let res : Byte := BitVec.ofInt 8 diff
  { res := res
    z := decide (res = 0)
    h := decide (((a.toNat % 16 : Nat) : Int) - (b.toNat % 16 : Nat) - cin.toNat < 0)
    c := decide (diff < 0) }

/-- What an accumulator operation gives: the byte for A (`none` for `CP`) and all four flags. -/
structure AccResult where
  res : Option Byte
  flags : Flags
  deriving DecidableEq, Repr

/-- An addition's row of the flag table: Z 0 H C (R149). -/
def addFlags (r : AluResult) : Flags := { z := r.z, n := false, h := r.h, c := r.c }

/-- A subtraction's row of the flag table: Z 1 H C (R149). -/
def subFlags (r : AluResult) : Flags := { z := r.z, n := true, h := r.h, c := r.c }

/-- A logic operation's row of the flag table: Z 0 `h` 0 (R147, R149). -/
def logicFlags (res : Byte) (h : Bool) : Flags := { z := decide (res = 0), n := false, h := h, c := false }

/-- The eight accumulator operations on A, the operand and the old carry (R149 to R173). -/
def aluOp (op : AluOp) (a x : Byte) (carry : Bool) : AccResult :=
  match op with
  | .add => { res := some (add8 a x false).res, flags := addFlags (add8 a x false) }
  | .adc => { res := some (add8 a x carry).res, flags := addFlags (add8 a x carry) }
  | .sub => { res := some (sub8 a x false).res, flags := subFlags (sub8 a x false) }
  | .sbc => { res := some (sub8 a x carry).res, flags := subFlags (sub8 a x carry) }
  | .and => { res := some (a &&& x), flags := logicFlags (a &&& x) true }
  | .xor => { res := some (a ^^^ x), flags := logicFlags (a ^^^ x) false }
  | .or => { res := some (a ||| x), flags := logicFlags (a ||| x) false }
  | .cp => { res := none, flags := subFlags (sub8 a x false) }

/-- Increment's flags: Z 0 H -, carry kept (R149, R174). -/
def incFlags (v : Byte) (old : Flags) : Flags :=
  { z := (add8 v 1 false).z, n := false, h := (add8 v 1 false).h, c := old.c }

/-- Decrement's flags: Z 1 H -, carry kept (R149, R176). -/
def decFlags (v : Byte) (old : Flags) : Flags :=
  { z := (sub8 v 1 false).z, n := true, h := (sub8 v 1 false).h, c := old.c }

/-- `ADD HL,rr`: the sum modulo 2^16 and the flags - 0 H C, H out of bit 11, C out of bit 15 (R185). -/
def addHl (a b : Word) (old : Flags) : Word × Flags :=
  let sum : Nat := a.toNat + b.toNat
  (BitVec.ofNat 16 sum,
   { z := old.z, n := false, h := decide (a.toNat % 4096 + b.toNat % 4096 > 0xFFF), c := decide (sum > 0xFFFF) })

/-- `SP + sext_16(e)` modulo 2^16 and the flags 0 0 H C out of bits 3 and 7 of the unsigned addition of
the low bytes (R135, R188). -/
def addSp (sp : Word) (e : Byte) : Word × Flags :=
  (sp + sext16 e,
   { z := false, n := false
     h := decide (sp.toNat % 16 + e.toNat % 16 > 0xF)
     c := decide (sp.toNat % 256 + e.toNat > 0xFF) })

/-- `shift(op, v, cin)`: result and bit out (R189). -/
def shift (op : RotOp) (v : Byte) (cin : Bool) : Byte × Bool :=
  match op with
  | .rlc => ((v <<< 1) ||| (v >>> 7), v.getLsbD 7)
  | .rrc => ((v >>> 1) ||| (v <<< 7), v.getLsbD 0)
  | .rl => ((v <<< 1) ||| (if cin then 1 else 0), v.getLsbD 7)
  | .rr => ((v >>> 1) ||| (if cin then 0x80 else 0), v.getLsbD 0)
  | .sla => (v <<< 1, v.getLsbD 7)
  | .sra => ((v >>> 1) ||| (v &&& 0x80), v.getLsbD 0)
  | .swap => ((v <<< 4) ||| (v >>> 4), false)
  | .srl => (v >>> 1, v.getLsbD 0)

/-- A rotate's or shift's row of the flag table: Z 0 0 C (R149, R194 to R209). -/
def rotFlags (p : Byte × Bool) : Flags := { z := decide (p.1 = 0), n := false, h := false, c := p.2 }

/-- The accumulator rotates' row of the flag table: 0 0 0 C (R149, R190 to R193). -/
def rotAccFlags (p : Byte × Bool) : Flags := { z := false, n := false, h := false, c := p.2 }

/-- `BIT`'s row of the flag table: Z is the complement of the bit, N 0, H 1, carry kept (R149, R210). -/
def bitFlags (v : Byte) (b : Idx8) (old : Flags) : Flags :=
  { z := !(v.getLsbD b.value), n := false, h := true, c := old.c }

/-- `v & ~(1 << b)` (R212). -/
def clearBit (v : Byte) (b : Idx8) : Byte := v &&& ~~~((1 : Byte) <<< b.value)

/-- `v | (1 << b)` (R214). -/
def setBit (v : Byte) (b : Idx8) : Byte := v ||| ((1 : Byte) <<< b.value)

/-- `DAA`: the adjusted A and the flags Z - 0 C (R178). -/
def daaOp (a : Byte) (f : Flags) : Byte × Flags :=
  let low : Bool := f.h || (!f.n && decide (a.toNat % 16 > 9))
  let high : Bool := f.c || (!f.n && decide (a.toNat > 0x99))
  let adj : Byte := (if low then 0x06 else 0) ||| (if high then 0x60 else 0)
  let res : Byte := if f.n then a - adj else a + adj
  (res, { z := decide (res = 0), n := f.n, h := false, c := high })

end Sys2Proof.Machine
end

