-- ==== Sys2Proof/Machine/Ops.lean ====
section
/-! DEFINITION. The named operations over the state: one setter per field, registers and pairs (R8, R12 to
R15), memory with its write trace (R43, R44, R48, R58), the stack (R130, R131), the bytes and cycles an
instruction consumes (R246, R247), raising a fault (R262), entering an interrupt (R272, R273) and
returning from one (R230). -/

namespace Sys2Proof.Machine

def State.setRegs (s : State) (x : RegFile) : State := { s with regs := x }

def State.setFlags (s : State) (x : Flags) : State := { s with flags := x }

def State.setSp (s : State) (x : Word) : State := { s with sp := x }

def State.setPc (s : State) (x : Word) : State := { s with pc := x }

def State.setMem (s : State) (x : Memory) : State := { s with mem := x }

def State.setClk (s : State) (x : Nat) : State := { s with clk := x }

def State.setIme (s : State) (x : Bool) : State := { s with ime := x }

def State.setImeSched (s : State) (x : Bool) : State := { s with imeSched := x }

def State.setRun (s : State) (x : RunState) : State := { s with run := x }

def State.setBp (s : State) (x : List Word) : State := { s with bp := x }

def State.setDbgMode (s : State) (x : DbgMode) : State := { s with dbgMode := x }

def State.setIrqIn (s : State) (x : Feed (Option Word)) : State := { s with irqIn := x }

def State.setHostIn (s : State) (x : Feed HostCmd) : State := { s with hostIn := x }

def State.setExited (s : State) (x : Bool) : State := { s with exited := x }

def State.setTrace (s : State) (x : List WriteEvent) : State := { s with trace := x }

def State.setAck (s : State) (x : Option Word) : State := { s with ack := x }

/-- The step-result and cycle outputs (R252, R253). -/
def State.report (s : State) (r : StepResult) (n : Nat) : State := { s with result := r, cycles := n }

/-- The value an input port has now: `idle` when the feed is quiet, `free k` when it is the free input. -/
def Feed.head {α : Type} (idle : α) (free : Nat → α) : Feed α → α
  | .quiet => idle
  | .item x _ => x
  | .oracle k => free k

/-- The port's values after the one it has now. -/
def Feed.tail {α : Type} : Feed α → Feed α
  | .quiet => .quiet
  | .item _ rest => rest
  | .oracle k => .oracle (k + 1)

/-- `x[r]` of R8. -/
def RegFile.get (x : RegFile) : Reg → Byte
  | .b => x.b | .c => x.c | .d => x.d | .e => x.e | .h => x.h | .l => x.l | .a => x.a

/-- `x[r] <- v` of R8. -/
def RegFile.set (x : RegFile) (r : Reg) (v : Byte) : RegFile :=
  match r with
  | .b => { x with b := v }
  | .c => { x with c := v }
  | .d => { x with d := v }
  | .e => { x with e := v }
  | .h => { x with h := v }
  | .l => { x with l := v }
  | .a => { x with a := v }

/-- Read an 8-bit register. -/
def State.reg (s : State) (r : Reg) : Byte := s.regs.get r

/-- Write an 8-bit register. -/
def State.setReg (s : State) (r : Reg) (v : Byte) : State := s.setRegs (s.regs.set r v)

/-- The pair views of table `rp`, and `SP` (R13, R15). -/
def State.pair (s : State) : Pair → Word
  | .bc => joinBytes s.regs.b s.regs.c
  | .de => joinBytes s.regs.d s.regs.e
  | .hl => joinBytes s.regs.h s.regs.l
  | .sp => s.sp

/-- Write a pair of table `rp`, or `SP`, as one change (R13). -/
def State.setPair (s : State) (p : Pair) (v : Word) : State :=
  match p with
  | .bc => s.setRegs { s.regs with b := hiByte v, c := loByte v }
  | .de => s.setRegs { s.regs with d := hiByte v, e := loByte v }
  | .hl => s.setRegs { s.regs with h := hiByte v, l := loByte v }
  | .sp => s.setSp v

/-- A stack pair as a pair of table `rp` (R15). -/
def pairOf : StackPair → Pair
  | .bc => .bc | .de => .de | .hl => .hl

/-- `HL`. -/
def State.hl (s : State) : Word := s.pair .hl

/-- `AF`: A high, F low (R14). -/
def State.af (s : State) : Word := joinBytes s.regs.a s.flags.toByte

/-- Write `AF`; the low nibble of the value is dropped (R14, R16, R139). -/
def State.setAf (s : State) (v : Word) : State :=
  (s.setReg .a (hiByte v)).setFlags (Flags.ofByte (loByte v))

/-- `MemRead(a, 1)` (R43): no side effect. -/
def State.readByte (s : State) (a : Word) : Byte := s.mem.read a.toNat

/-- `MemRead(a, 2)`: low byte at the lower address, the second address wraps (R8, R48). -/
def State.readWord (s : State) (a : Word) : Word := joinBytes (s.readByte (a + 1)) (s.readByte a)

/-- `MemWrite(a, 1, v)`: the byte stored and one write event put out (R44, R58). -/
def State.writeByte (s : State) (a : Word) (v : Byte) : State :=
  (s.setMem (s.mem.write a.toNat v)).setTrace (⟨a, v, regionOf a⟩ :: s.trace)

/-- `MemWrite(a, 2, v)`: low byte first, at the lower address (R8, R133). -/
def State.writeWord (s : State) (a : Word) (v : Word) : State :=
  (s.writeByte a (loByte v)).writeByte (a + 1) (hiByte v)

/-- The write events in the order the writes were performed (R58). -/
def State.writeEvents (s : State) : List WriteEvent := s.trace.reverse

/-- `Push16(v)`: high byte first, at the higher address (R130). -/
def State.push16 (s : State) (v : Word) : State :=
  let sp := s.sp - 2
  ((s.setSp sp).writeByte (sp + 1) (hiByte v)).writeByte sp (loByte v)

/-- The value `Pop16()` returns (R131). -/
def State.popValue (s : State) : Word := s.readWord s.sp

/-- The state `Pop16()` leaves (R131). -/
def State.popped (s : State) : State := s.setSp (s.sp + 2)

/-- The instruction's `n` bytes consumed: `PC` at the next instruction (R9, R19, R246). -/
def State.advance (s : State) (n : Nat) : State := s.setPc (s.pc + BitVec.ofNat 16 n)

/-- `clk <- clk + n` (R8, R23). -/
def State.addClk (s : State) (n : Nat) : State := s.setClk (s.clk + n)

/-- `return n`: the effect is complete and cost `n` cycles (R8, R247). -/
def State.retire (s : State) (n : Nat) : Answer := .next (s.addClk n)

/-- `raise f`: the machine is faulted and nothing else changes (R262, R264). -/
def State.raise (s : State) (f : Fault) : State := s.setRun (.faulted f)

/-- This step's sample of the input `IRQ` (R252). -/
def State.irqSample (s : State) : Option Word := s.irqIn.head none Config.irqOracle

/-- Interrupt entry (R272, R273): `PC` pushed, the enable cleared, control at the vector, the cycles of
the dispatch added, the acknowledge put out. -/
def State.enterInterrupt (s : State) (v : Word) : State :=
  (((((s.push16 s.pc).setIme false).setImeSched false).setPc v).addClk s.params.intCycles).setAck (some v)

/-- Return from interrupt (R230, R275): `PC` popped, the enable set at once, a scheduled enable dropped. -/
def State.returnInterrupt (s : State) : State :=
  (((s.popped).setPc s.popValue).setIme true).setImeSched false

end Sys2Proof.Machine
end

