-- ==== Sys2Proof/Machine/Operands.lean ====
section
/-! DEFINITION. The operand forms: the address of every memory operand (R51, R74), the operand of an
accumulator operation, the displacement forms and the conditions (R220). -/

namespace Sys2Proof.Machine

/-- The high-page address `0xFF00 + n` of `LDH` and of `(C)` (R74, R112, R114). -/
def highPage (n : Byte) : Word := joinBytes 0xFF n

/-- The address of a `(BC)` operand (R51). -/
def State.addrBc (s : State) : Word := s.pair .bc

/-- The address of a `(DE)` operand (R51). -/
def State.addrDe (s : State) : Word := s.pair .de

/-- The address of a `(C)` operand (R114). -/
def State.addrC (s : State) : Word := highPage s.regs.c

/-- The byte at `HL`, the operand of selector 6 (R12). -/
def State.atHl (s : State) : Byte := s.readByte s.hl

/-- `cond(cc)` (R220). -/
def Flags.cond (f : Flags) : Cond → Bool
  | .nz => !f.z
  | .z => f.z
  | .nc => !f.c
  | .c => f.c

/-- `PC + sext_16(e)`, with `PC` the address after the displacement byte (R74, R224). -/
def State.relTarget (s : State) (e : Byte) : Word := s.pc + sext16 e

/-- The restart address `t * 8` (R231). -/
def restartAddress (t : Idx8) : Word := BitVec.ofNat 16 (t.value * 8)

end Sys2Proof.Machine
end

