-- ==== Sys2Proof/Machine/Load8.lean ====
section
/-! DEFINITION. 8-bit loads (40_load8.md): the shared operations R101 to R119, then the meaning of each instruction. -/

namespace Sys2Proof.Machine

/-- R101 `LD r,s`. -/
def runLdRegReg (r q : Reg) (s : State) : Answer :=
  let t := s.advance 1
  (t.setReg r (t.reg q)).retire 4

/-- R102 `LD r,d8`. -/
def runLdRegImm (r : Reg) (n : Byte) (s : State) : Answer :=
  ((s.advance 2).setReg r n).retire 8

/-- R103 `LD r,(HL)`; the address is `HL` before the write (R51). -/
def runLdRegAtHl (r : Reg) (s : State) : Answer :=
  let t := s.advance 1
  (t.setReg r t.atHl).retire 8

/-- R104 `LD (HL),r`. -/
def runLdAtHlReg (q : Reg) (s : State) : Answer :=
  let t := s.advance 1
  (t.writeByte t.hl (t.reg q)).retire 8

/-- R105 `LD (HL),d8`. -/
def runLdAtHlImm (n : Byte) (s : State) : Answer :=
  let t := s.advance 2
  (t.writeByte t.hl n).retire 12

/-- R106 `LD A,(BC)`. -/
def runLdAccAtBc (s : State) : Answer :=
  let t := s.advance 1
  (t.setReg .a (t.readByte t.addrBc)).retire 8

/-- R107 `LD A,(DE)`. -/
def runLdAccAtDe (s : State) : Answer :=
  let t := s.advance 1
  (t.setReg .a (t.readByte t.addrDe)).retire 8

/-- R108 `LD (BC),A`. -/
def runLdAtBcAcc (s : State) : Answer :=
  let t := s.advance 1
  (t.writeByte t.addrBc (t.reg .a)).retire 8

/-- R109 `LD (DE),A`. -/
def runLdAtDeAcc (s : State) : Answer :=
  let t := s.advance 1
  (t.writeByte t.addrDe (t.reg .a)).retire 8

/-- R110 `LD A,(a16)`. -/
def runLdAccAtAbs (w : Word) (s : State) : Answer :=
  let t := s.advance 3
  (t.setReg .a (t.readByte w)).retire 16

/-- R111 `LD (a16),A`. -/
def runLdAtAbsAcc (w : Word) (s : State) : Answer :=
  let t := s.advance 3
  (t.writeByte w (t.reg .a)).retire 16

/-- R112 `LDH A,(a8)`. -/
def runLdAccAtHigh (n : Byte) (s : State) : Answer :=
  let t := s.advance 2
  (t.setReg .a (t.readByte (highPage n))).retire 12

/-- R113 `LDH (a8),A`. -/
def runLdAtHighAcc (n : Byte) (s : State) : Answer :=
  let t := s.advance 2
  (t.writeByte (highPage n) (t.reg .a)).retire 12

/-- R114 `LD A,(C)`. -/
def runLdAccAtC (s : State) : Answer :=
  let t := s.advance 1
  (t.setReg .a (t.readByte t.addrC)).retire 8

/-- R115 `LD (C),A`. -/
def runLdAtCAcc (s : State) : Answer :=
  let t := s.advance 1
  (t.writeByte t.addrC (t.reg .a)).retire 8

/-- R116 `LD (HL+),A`: the access uses `HL` before the increment (R51). -/
def runLdAtHlIncAcc (s : State) : Answer :=
  let t := s.advance 1
  ((t.writeByte t.hl (t.reg .a)).setPair .hl (t.hl + 1)).retire 8

/-- R117 `LD A,(HL+)`. -/
def runLdAccAtHlInc (s : State) : Answer :=
  let t := s.advance 1
  ((t.setReg .a t.atHl).setPair .hl (t.hl + 1)).retire 8

/-- R118 `LD (HL-),A`. -/
def runLdAtHlDecAcc (s : State) : Answer :=
  let t := s.advance 1
  ((t.writeByte t.hl (t.reg .a)).setPair .hl (t.hl - 1)).retire 8

/-- R119 `LD A,(HL-)`. -/
def runLdAccAtHlDec (s : State) : Answer :=
  let t := s.advance 1
  ((t.setReg .a t.atHl).setPair .hl (t.hl - 1)).retire 8

/-- R108, `LD (BC),A`. -/
def execLdAtBcA (s : State) : Answer := runLdAtBcAcc s

/-- R102, `LD B,d8`. -/
def execLdBD8 (n : Byte) (s : State) : Answer := runLdRegImm .b n s

/-- R106, `LD A,(BC)`. -/
def execLdAAtBc (s : State) : Answer := runLdAccAtBc s

/-- R102, `LD C,d8`. -/
def execLdCD8 (n : Byte) (s : State) : Answer := runLdRegImm .c n s

/-- R109, `LD (DE),A`. -/
def execLdAtDeA (s : State) : Answer := runLdAtDeAcc s

/-- R102, `LD D,d8`. -/
def execLdDD8 (n : Byte) (s : State) : Answer := runLdRegImm .d n s

/-- R107, `LD A,(DE)`. -/
def execLdAAtDe (s : State) : Answer := runLdAccAtDe s

/-- R102, `LD E,d8`. -/
def execLdED8 (n : Byte) (s : State) : Answer := runLdRegImm .e n s

/-- R116, `LD (HL+),A`. -/
def execLdAtHlIncA (s : State) : Answer := runLdAtHlIncAcc s

/-- R102, `LD H,d8`. -/
def execLdHD8 (n : Byte) (s : State) : Answer := runLdRegImm .h n s

/-- R117, `LD A,(HL+)`. -/
def execLdAAtHlInc (s : State) : Answer := runLdAccAtHlInc s

/-- R102, `LD L,d8`. -/
def execLdLD8 (n : Byte) (s : State) : Answer := runLdRegImm .l n s

/-- R118, `LD (HL-),A`. -/
def execLdAtHlDecA (s : State) : Answer := runLdAtHlDecAcc s

/-- R105, `LD (HL),d8`. -/
def execLdAtHlD8 (n : Byte) (s : State) : Answer := runLdAtHlImm n s

/-- R119, `LD A,(HL-)`. -/
def execLdAAtHlDec (s : State) : Answer := runLdAccAtHlDec s

/-- R102, `LD A,d8`. -/
def execLdAD8 (n : Byte) (s : State) : Answer := runLdRegImm .a n s

/-- R101, `LD B,B`. -/
def execLdBB (s : State) : Answer := runLdRegReg .b .b s

/-- R101, `LD B,C`. -/
def execLdBC (s : State) : Answer := runLdRegReg .b .c s

/-- R101, `LD B,D`. -/
def execLdBD (s : State) : Answer := runLdRegReg .b .d s

/-- R101, `LD B,E`. -/
def execLdBE (s : State) : Answer := runLdRegReg .b .e s

/-- R101, `LD B,H`. -/
def execLdBH (s : State) : Answer := runLdRegReg .b .h s

/-- R101, `LD B,L`. -/
def execLdBL (s : State) : Answer := runLdRegReg .b .l s

/-- R103, `LD B,(HL)`. -/
def execLdBAtHl (s : State) : Answer := runLdRegAtHl .b s

/-- R101, `LD B,A`. -/
def execLdBA (s : State) : Answer := runLdRegReg .b .a s

/-- R101, `LD C,B`. -/
def execLdCB (s : State) : Answer := runLdRegReg .c .b s

/-- R101, `LD C,C`. -/
def execLdCC (s : State) : Answer := runLdRegReg .c .c s

/-- R101, `LD C,D`. -/
def execLdCD (s : State) : Answer := runLdRegReg .c .d s

/-- R101, `LD C,E`. -/
def execLdCE (s : State) : Answer := runLdRegReg .c .e s

/-- R101, `LD C,H`. -/
def execLdCH (s : State) : Answer := runLdRegReg .c .h s

/-- R101, `LD C,L`. -/
def execLdCL (s : State) : Answer := runLdRegReg .c .l s

/-- R103, `LD C,(HL)`. -/
def execLdCAtHl (s : State) : Answer := runLdRegAtHl .c s

/-- R101, `LD C,A`. -/
def execLdCA (s : State) : Answer := runLdRegReg .c .a s

/-- R101, `LD D,B`. -/
def execLdDB (s : State) : Answer := runLdRegReg .d .b s

/-- R101, `LD D,C`. -/
def execLdDC (s : State) : Answer := runLdRegReg .d .c s

/-- R101, `LD D,D`. -/
def execLdDD (s : State) : Answer := runLdRegReg .d .d s

/-- R101, `LD D,E`. -/
def execLdDE (s : State) : Answer := runLdRegReg .d .e s

/-- R101, `LD D,H`. -/
def execLdDH (s : State) : Answer := runLdRegReg .d .h s

/-- R101, `LD D,L`. -/
def execLdDL (s : State) : Answer := runLdRegReg .d .l s

/-- R103, `LD D,(HL)`. -/
def execLdDAtHl (s : State) : Answer := runLdRegAtHl .d s

/-- R101, `LD D,A`. -/
def execLdDA (s : State) : Answer := runLdRegReg .d .a s

/-- R101, `LD E,B`. -/
def execLdEB (s : State) : Answer := runLdRegReg .e .b s

/-- R101, `LD E,C`. -/
def execLdEC (s : State) : Answer := runLdRegReg .e .c s

/-- R101, `LD E,D`. -/
def execLdED (s : State) : Answer := runLdRegReg .e .d s

/-- R101, `LD E,E`. -/
def execLdEE (s : State) : Answer := runLdRegReg .e .e s

/-- R101, `LD E,H`. -/
def execLdEH (s : State) : Answer := runLdRegReg .e .h s

/-- R101, `LD E,L`. -/
def execLdEL (s : State) : Answer := runLdRegReg .e .l s

/-- R103, `LD E,(HL)`. -/
def execLdEAtHl (s : State) : Answer := runLdRegAtHl .e s

/-- R101, `LD E,A`. -/
def execLdEA (s : State) : Answer := runLdRegReg .e .a s

/-- R101, `LD H,B`. -/
def execLdHB (s : State) : Answer := runLdRegReg .h .b s

/-- R101, `LD H,C`. -/
def execLdHC (s : State) : Answer := runLdRegReg .h .c s

/-- R101, `LD H,D`. -/
def execLdHD (s : State) : Answer := runLdRegReg .h .d s

/-- R101, `LD H,E`. -/
def execLdHE (s : State) : Answer := runLdRegReg .h .e s

/-- R101, `LD H,H`. -/
def execLdHH (s : State) : Answer := runLdRegReg .h .h s

/-- R101, `LD H,L`. -/
def execLdHL (s : State) : Answer := runLdRegReg .h .l s

/-- R103, `LD H,(HL)`. -/
def execLdHAtHl (s : State) : Answer := runLdRegAtHl .h s

/-- R101, `LD H,A`. -/
def execLdHA (s : State) : Answer := runLdRegReg .h .a s

/-- R101, `LD L,B`. -/
def execLdLB (s : State) : Answer := runLdRegReg .l .b s

/-- R101, `LD L,C`. -/
def execLdLC (s : State) : Answer := runLdRegReg .l .c s

/-- R101, `LD L,D`. -/
def execLdLD (s : State) : Answer := runLdRegReg .l .d s

/-- R101, `LD L,E`. -/
def execLdLE (s : State) : Answer := runLdRegReg .l .e s

/-- R101, `LD L,H`. -/
def execLdLH (s : State) : Answer := runLdRegReg .l .h s

/-- R101, `LD L,L`. -/
def execLdLL (s : State) : Answer := runLdRegReg .l .l s

/-- R103, `LD L,(HL)`. -/
def execLdLAtHl (s : State) : Answer := runLdRegAtHl .l s

/-- R101, `LD L,A`. -/
def execLdLA (s : State) : Answer := runLdRegReg .l .a s

/-- R104, `LD (HL),B`. -/
def execLdAtHlB (s : State) : Answer := runLdAtHlReg .b s

/-- R104, `LD (HL),C`. -/
def execLdAtHlC (s : State) : Answer := runLdAtHlReg .c s

/-- R104, `LD (HL),D`. -/
def execLdAtHlD (s : State) : Answer := runLdAtHlReg .d s

/-- R104, `LD (HL),E`. -/
def execLdAtHlE (s : State) : Answer := runLdAtHlReg .e s

/-- R104, `LD (HL),H`. -/
def execLdAtHlH (s : State) : Answer := runLdAtHlReg .h s

/-- R104, `LD (HL),L`. -/
def execLdAtHlL (s : State) : Answer := runLdAtHlReg .l s

/-- R104, `LD (HL),A`. -/
def execLdAtHlA (s : State) : Answer := runLdAtHlReg .a s

/-- R101, `LD A,B`. -/
def execLdAB (s : State) : Answer := runLdRegReg .a .b s

/-- R101, `LD A,C`. -/
def execLdAC (s : State) : Answer := runLdRegReg .a .c s

/-- R101, `LD A,D`. -/
def execLdAD (s : State) : Answer := runLdRegReg .a .d s

/-- R101, `LD A,E`. -/
def execLdAE (s : State) : Answer := runLdRegReg .a .e s

/-- R101, `LD A,H`. -/
def execLdAH (s : State) : Answer := runLdRegReg .a .h s

/-- R101, `LD A,L`. -/
def execLdAL (s : State) : Answer := runLdRegReg .a .l s

/-- R103, `LD A,(HL)`. -/
def execLdAAtHl (s : State) : Answer := runLdRegAtHl .a s

/-- R101, `LD A,A`. -/
def execLdAA (s : State) : Answer := runLdRegReg .a .a s

/-- R113, `LDH (a8),A`. -/
def execLdhAtA8A (n : Byte) (s : State) : Answer := runLdAtHighAcc n s

/-- R115, `LD (C),A`. -/
def execLdAtCA (s : State) : Answer := runLdAtCAcc s

/-- R111, `LD (a16),A`. -/
def execLdAtA16A (w : Word) (s : State) : Answer := runLdAtAbsAcc w s

/-- R112, `LDH A,(a8)`. -/
def execLdhAAtA8 (n : Byte) (s : State) : Answer := runLdAccAtHigh n s

/-- R114, `LD A,(C)`. -/
def execLdAAtC (s : State) : Answer := runLdAccAtC s

/-- R110, `LD A,(a16)`. -/
def execLdAAtA16 (w : Word) (s : State) : Answer := runLdAccAtAbs w s

end Sys2Proof.Machine
end

