-- ==== Sys2Proof/Machine/Load16.lean ====
section
/-! DEFINITION. 16-bit loads and the stack (41_load16_stack.md): the shared operations R132 to R139, then the meaning of each instruction. -/

namespace Sys2Proof.Machine

/-- R132 `LD rr,d16`. -/
def runLdPairImm (p : Pair) (w : Word) (s : State) : Answer :=
  ((s.advance 3).setPair p w).retire 12

/-- R133 `LD (a16),SP`: low byte first, at the lower address. -/
def runLdAtAbsSp (w : Word) (s : State) : Answer :=
  let t := s.advance 3
  (t.writeWord w t.sp).retire 20

/-- R134 `LD SP,HL`. -/
def runLdSpFromHl (s : State) : Answer :=
  let t := s.advance 1
  (t.setSp t.hl).retire 8

/-- R135 `LD HL,SP+r8`. -/
def runLdHlSpOffset (e : Byte) (s : State) : Answer :=
  let t := s.advance 2
  let r := addSp t.sp e
  ((t.setPair .hl r.1).setFlags r.2).retire 12

/-- R136 `PUSH rr`. -/
def runPushPair (p : StackPair) (s : State) : Answer :=
  let t := s.advance 1
  (t.push16 (t.pair (pairOf p))).retire 16

/-- R137 `PUSH AF`. -/
def runPushAf (s : State) : Answer :=
  let t := s.advance 1
  (t.push16 t.af).retire 16

/-- R138 `POP rr`. -/
def runPopPair (p : StackPair) (s : State) : Answer :=
  let t := s.advance 1
  (t.popped.setPair (pairOf p) t.popValue).retire 12

/-- R139 `POP AF`. -/
def runPopAf (s : State) : Answer :=
  let t := s.advance 1
  (t.popped.setAf t.popValue).retire 12

/-- R132, `LD BC,d16`. -/
def execLdBcD16 (w : Word) (s : State) : Answer := runLdPairImm .bc w s

/-- R133, `LD (a16),SP`. -/
def execLdAtA16Sp (w : Word) (s : State) : Answer := runLdAtAbsSp w s

/-- R132, `LD DE,d16`. -/
def execLdDeD16 (w : Word) (s : State) : Answer := runLdPairImm .de w s

/-- R132, `LD HL,d16`. -/
def execLdHlD16 (w : Word) (s : State) : Answer := runLdPairImm .hl w s

/-- R132, `LD SP,d16`. -/
def execLdSpD16 (w : Word) (s : State) : Answer := runLdPairImm .sp w s

/-- R138, `POP BC`. -/
def execPopBc (s : State) : Answer := runPopPair .bc s

/-- R136, `PUSH BC`. -/
def execPushBc (s : State) : Answer := runPushPair .bc s

/-- R138, `POP DE`. -/
def execPopDe (s : State) : Answer := runPopPair .de s

/-- R136, `PUSH DE`. -/
def execPushDe (s : State) : Answer := runPushPair .de s

/-- R138, `POP HL`. -/
def execPopHl (s : State) : Answer := runPopPair .hl s

/-- R136, `PUSH HL`. -/
def execPushHl (s : State) : Answer := runPushPair .hl s

/-- R139, `POP AF`. -/
def execPopAf (s : State) : Answer := runPopAf s

/-- R137, `PUSH AF`. -/
def execPushAf (s : State) : Answer := runPushAf s

/-- R135, `LD HL,SP+r8`. -/
def execLdHlSpR8 (e : Byte) (s : State) : Answer := runLdHlSpOffset e s

/-- R134, `LD SP,HL`. -/
def execLdSpHl (s : State) : Answer := runLdSpFromHl s

end Sys2Proof.Machine
end

