-- ==== Sys2Proof/Machine/Alu8.lean ====
section
/-! DEFINITION. 8-bit arithmetic and logic (42_alu8.md): the shared operations R150 to R181, then the meaning of each instruction. -/

namespace Sys2Proof.Machine

/-- A takes the operation's result, except for `CP`, and all four flags are written (R149). -/
def State.applyAcc (s : State) (r : AccResult) : State :=
  match r.res with
  | some v => (s.setReg .a v).setFlags r.flags
  | none => s.setFlags r.flags

/-- R150, R153, R156, R159, R162, R165, R168, R171: operand a register. -/
def runAluReg (op : AluOp) (r : Reg) (s : State) : Answer :=
  let t := s.advance 1
  (t.applyAcc (aluOp op (t.reg .a) (t.reg r) t.flags.c)).retire 4

/-- R151, R154, R157, R160, R163, R166, R169, R172: operand `(HL)`. -/
def runAluAtHl (op : AluOp) (s : State) : Answer :=
  let t := s.advance 1
  (t.applyAcc (aluOp op (t.reg .a) t.atHl t.flags.c)).retire 8

/-- R152, R155, R158, R161, R164, R167, R170, R173: operand `d8`. -/
def runAluImm (op : AluOp) (n : Byte) (s : State) : Answer :=
  let t := s.advance 2
  (t.applyAcc (aluOp op (t.reg .a) n t.flags.c)).retire 8

/-- R174 `INC r`. -/
def runIncReg (r : Reg) (s : State) : Answer :=
  let t := s.advance 1
  let v := t.reg r
  ((t.setReg r (add8 v 1 false).res).setFlags (incFlags v t.flags)).retire 4

/-- R175 `INC (HL)`. -/
def runIncAtHl (s : State) : Answer :=
  let t := s.advance 1
  let v := t.atHl
  ((t.writeByte t.hl (add8 v 1 false).res).setFlags (incFlags v t.flags)).retire 12

/-- R176 `DEC r`. -/
def runDecReg (r : Reg) (s : State) : Answer :=
  let t := s.advance 1
  let v := t.reg r
  ((t.setReg r (sub8 v 1 false).res).setFlags (decFlags v t.flags)).retire 4

/-- R177 `DEC (HL)`. -/
def runDecAtHl (s : State) : Answer :=
  let t := s.advance 1
  let v := t.atHl
  ((t.writeByte t.hl (sub8 v 1 false).res).setFlags (decFlags v t.flags)).retire 12

/-- R178 `DAA`. -/
def runDaa (s : State) : Answer :=
  let t := s.advance 1
  let r := daaOp (t.reg .a) t.flags
  ((t.setReg .a r.1).setFlags r.2).retire 4

/-- R179 `CPL`. -/
def runCpl (s : State) : Answer :=
  let t := s.advance 1
  ((t.setReg .a (~~~(t.reg .a))).setFlags { t.flags with n := true, h := true }).retire 4

/-- R180 `SCF`. -/
def runScf (s : State) : Answer :=
  let t := s.advance 1
  (t.setFlags { t.flags with n := false, h := false, c := true }).retire 4

/-- R181 `CCF`. -/
def runCcf (s : State) : Answer :=
  let t := s.advance 1
  (t.setFlags { t.flags with n := false, h := false, c := !t.flags.c }).retire 4

/-- R174, `INC B`. -/
def execIncB (s : State) : Answer := runIncReg .b s

/-- R176, `DEC B`. -/
def execDecB (s : State) : Answer := runDecReg .b s

/-- R174, `INC C`. -/
def execIncC (s : State) : Answer := runIncReg .c s

/-- R176, `DEC C`. -/
def execDecC (s : State) : Answer := runDecReg .c s

/-- R174, `INC D`. -/
def execIncD (s : State) : Answer := runIncReg .d s

/-- R176, `DEC D`. -/
def execDecD (s : State) : Answer := runDecReg .d s

/-- R174, `INC E`. -/
def execIncE (s : State) : Answer := runIncReg .e s

/-- R176, `DEC E`. -/
def execDecE (s : State) : Answer := runDecReg .e s

/-- R174, `INC H`. -/
def execIncH (s : State) : Answer := runIncReg .h s

/-- R176, `DEC H`. -/
def execDecH (s : State) : Answer := runDecReg .h s

/-- R178, `DAA`. -/
def execDaa (s : State) : Answer := runDaa s

/-- R174, `INC L`. -/
def execIncL (s : State) : Answer := runIncReg .l s

/-- R176, `DEC L`. -/
def execDecL (s : State) : Answer := runDecReg .l s

/-- R179, `CPL`. -/
def execCpl (s : State) : Answer := runCpl s

/-- R175, `INC (HL)`. -/
def execIncAtHl (s : State) : Answer := runIncAtHl s

/-- R177, `DEC (HL)`. -/
def execDecAtHl (s : State) : Answer := runDecAtHl s

/-- R180, `SCF`. -/
def execScf (s : State) : Answer := runScf s

/-- R174, `INC A`. -/
def execIncA (s : State) : Answer := runIncReg .a s

/-- R176, `DEC A`. -/
def execDecA (s : State) : Answer := runDecReg .a s

/-- R181, `CCF`. -/
def execCcf (s : State) : Answer := runCcf s

/-- R150, `ADD A,B`. -/
def execAddAB (s : State) : Answer := runAluReg .add .b s

/-- R150, `ADD A,C`. -/
def execAddAC (s : State) : Answer := runAluReg .add .c s

/-- R150, `ADD A,D`. -/
def execAddAD (s : State) : Answer := runAluReg .add .d s

/-- R150, `ADD A,E`. -/
def execAddAE (s : State) : Answer := runAluReg .add .e s

/-- R150, `ADD A,H`. -/
def execAddAH (s : State) : Answer := runAluReg .add .h s

/-- R150, `ADD A,L`. -/
def execAddAL (s : State) : Answer := runAluReg .add .l s

/-- R151, `ADD A,(HL)`. -/
def execAddAAtHl (s : State) : Answer := runAluAtHl .add s

/-- R150, `ADD A,A`. -/
def execAddAA (s : State) : Answer := runAluReg .add .a s

/-- R153, `ADC A,B`. -/
def execAdcAB (s : State) : Answer := runAluReg .adc .b s

/-- R153, `ADC A,C`. -/
def execAdcAC (s : State) : Answer := runAluReg .adc .c s

/-- R153, `ADC A,D`. -/
def execAdcAD (s : State) : Answer := runAluReg .adc .d s

/-- R153, `ADC A,E`. -/
def execAdcAE (s : State) : Answer := runAluReg .adc .e s

/-- R153, `ADC A,H`. -/
def execAdcAH (s : State) : Answer := runAluReg .adc .h s

/-- R153, `ADC A,L`. -/
def execAdcAL (s : State) : Answer := runAluReg .adc .l s

/-- R154, `ADC A,(HL)`. -/
def execAdcAAtHl (s : State) : Answer := runAluAtHl .adc s

/-- R153, `ADC A,A`. -/
def execAdcAA (s : State) : Answer := runAluReg .adc .a s

/-- R156, `SUB B`. -/
def execSubB (s : State) : Answer := runAluReg .sub .b s

/-- R156, `SUB C`. -/
def execSubC (s : State) : Answer := runAluReg .sub .c s

/-- R156, `SUB D`. -/
def execSubD (s : State) : Answer := runAluReg .sub .d s

/-- R156, `SUB E`. -/
def execSubE (s : State) : Answer := runAluReg .sub .e s

/-- R156, `SUB H`. -/
def execSubH (s : State) : Answer := runAluReg .sub .h s

/-- R156, `SUB L`. -/
def execSubL (s : State) : Answer := runAluReg .sub .l s

/-- R157, `SUB (HL)`. -/
def execSubAtHl (s : State) : Answer := runAluAtHl .sub s

/-- R156, `SUB A`. -/
def execSubA (s : State) : Answer := runAluReg .sub .a s

/-- R159, `SBC A,B`. -/
def execSbcAB (s : State) : Answer := runAluReg .sbc .b s

/-- R159, `SBC A,C`. -/
def execSbcAC (s : State) : Answer := runAluReg .sbc .c s

/-- R159, `SBC A,D`. -/
def execSbcAD (s : State) : Answer := runAluReg .sbc .d s

/-- R159, `SBC A,E`. -/
def execSbcAE (s : State) : Answer := runAluReg .sbc .e s

/-- R159, `SBC A,H`. -/
def execSbcAH (s : State) : Answer := runAluReg .sbc .h s

/-- R159, `SBC A,L`. -/
def execSbcAL (s : State) : Answer := runAluReg .sbc .l s

/-- R160, `SBC A,(HL)`. -/
def execSbcAAtHl (s : State) : Answer := runAluAtHl .sbc s

/-- R159, `SBC A,A`. -/
def execSbcAA (s : State) : Answer := runAluReg .sbc .a s

/-- R162, `AND B`. -/
def execAndB (s : State) : Answer := runAluReg .and .b s

/-- R162, `AND C`. -/
def execAndC (s : State) : Answer := runAluReg .and .c s

/-- R162, `AND D`. -/
def execAndD (s : State) : Answer := runAluReg .and .d s

/-- R162, `AND E`. -/
def execAndE (s : State) : Answer := runAluReg .and .e s

/-- R162, `AND H`. -/
def execAndH (s : State) : Answer := runAluReg .and .h s

/-- R162, `AND L`. -/
def execAndL (s : State) : Answer := runAluReg .and .l s

/-- R163, `AND (HL)`. -/
def execAndAtHl (s : State) : Answer := runAluAtHl .and s

/-- R162, `AND A`. -/
def execAndA (s : State) : Answer := runAluReg .and .a s

/-- R165, `XOR B`. -/
def execXorB (s : State) : Answer := runAluReg .xor .b s

/-- R165, `XOR C`. -/
def execXorC (s : State) : Answer := runAluReg .xor .c s

/-- R165, `XOR D`. -/
def execXorD (s : State) : Answer := runAluReg .xor .d s

/-- R165, `XOR E`. -/
def execXorE (s : State) : Answer := runAluReg .xor .e s

/-- R165, `XOR H`. -/
def execXorH (s : State) : Answer := runAluReg .xor .h s

/-- R165, `XOR L`. -/
def execXorL (s : State) : Answer := runAluReg .xor .l s

/-- R166, `XOR (HL)`. -/
def execXorAtHl (s : State) : Answer := runAluAtHl .xor s

/-- R165, `XOR A`. -/
def execXorA (s : State) : Answer := runAluReg .xor .a s

/-- R168, `OR B`. -/
def execOrB (s : State) : Answer := runAluReg .or .b s

/-- R168, `OR C`. -/
def execOrC (s : State) : Answer := runAluReg .or .c s

/-- R168, `OR D`. -/
def execOrD (s : State) : Answer := runAluReg .or .d s

/-- R168, `OR E`. -/
def execOrE (s : State) : Answer := runAluReg .or .e s

/-- R168, `OR H`. -/
def execOrH (s : State) : Answer := runAluReg .or .h s

/-- R168, `OR L`. -/
def execOrL (s : State) : Answer := runAluReg .or .l s

/-- R169, `OR (HL)`. -/
def execOrAtHl (s : State) : Answer := runAluAtHl .or s

/-- R168, `OR A`. -/
def execOrA (s : State) : Answer := runAluReg .or .a s

/-- R171, `CP B`. -/
def execCpB (s : State) : Answer := runAluReg .cp .b s

/-- R171, `CP C`. -/
def execCpC (s : State) : Answer := runAluReg .cp .c s

/-- R171, `CP D`. -/
def execCpD (s : State) : Answer := runAluReg .cp .d s

/-- R171, `CP E`. -/
def execCpE (s : State) : Answer := runAluReg .cp .e s

/-- R171, `CP H`. -/
def execCpH (s : State) : Answer := runAluReg .cp .h s

/-- R171, `CP L`. -/
def execCpL (s : State) : Answer := runAluReg .cp .l s

/-- R172, `CP (HL)`. -/
def execCpAtHl (s : State) : Answer := runAluAtHl .cp s

/-- R171, `CP A`. -/
def execCpA (s : State) : Answer := runAluReg .cp .a s

/-- R152, `ADD A,d8`. -/
def execAddAD8 (n : Byte) (s : State) : Answer := runAluImm .add n s

/-- R155, `ADC A,d8`. -/
def execAdcAD8 (n : Byte) (s : State) : Answer := runAluImm .adc n s

/-- R158, `SUB d8`. -/
def execSubD8 (n : Byte) (s : State) : Answer := runAluImm .sub n s

/-- R161, `SBC A,d8`. -/
def execSbcAD8 (n : Byte) (s : State) : Answer := runAluImm .sbc n s

/-- R164, `AND d8`. -/
def execAndD8 (n : Byte) (s : State) : Answer := runAluImm .and n s

/-- R167, `XOR d8`. -/
def execXorD8 (n : Byte) (s : State) : Answer := runAluImm .xor n s

/-- R170, `OR d8`. -/
def execOrD8 (n : Byte) (s : State) : Answer := runAluImm .or n s

/-- R173, `CP d8`. -/
def execCpD8 (n : Byte) (s : State) : Answer := runAluImm .cp n s

end Sys2Proof.Machine
end

