-- ==== Sys2Proof/Machine/Alu16.lean ====
section
/-! DEFINITION. 16-bit arithmetic (43_alu16.md): the shared operations R185 to R188, then the meaning of each instruction. -/

namespace Sys2Proof.Machine

/-- R185 `ADD HL,rr`: both operands read before `HL` is written. -/
def runAddHlPair (p : Pair) (s : State) : Answer :=
  let t := s.advance 1
  let r := addHl t.hl (t.pair p) t.flags
  ((t.setPair .hl r.1).setFlags r.2).retire 8

/-- R186 `INC rr`: no flag. -/
def runIncPair (p : Pair) (s : State) : Answer :=
  let t := s.advance 1
  (t.setPair p (t.pair p + 1)).retire 8

/-- R187 `DEC rr`: no flag. -/
def runDecPair (p : Pair) (s : State) : Answer :=
  let t := s.advance 1
  (t.setPair p (t.pair p - 1)).retire 8

/-- R188 `ADD SP,r8`. -/
def runAddSpOffset (e : Byte) (s : State) : Answer :=
  let t := s.advance 2
  let r := addSp t.sp e
  ((t.setSp r.1).setFlags r.2).retire 16

/-- R186, `INC BC`. -/
def execIncBc (s : State) : Answer := runIncPair .bc s

/-- R185, `ADD HL,BC`. -/
def execAddHlBc (s : State) : Answer := runAddHlPair .bc s

/-- R187, `DEC BC`. -/
def execDecBc (s : State) : Answer := runDecPair .bc s

/-- R186, `INC DE`. -/
def execIncDe (s : State) : Answer := runIncPair .de s

/-- R185, `ADD HL,DE`. -/
def execAddHlDe (s : State) : Answer := runAddHlPair .de s

/-- R187, `DEC DE`. -/
def execDecDe (s : State) : Answer := runDecPair .de s

/-- R186, `INC HL`. -/
def execIncHl (s : State) : Answer := runIncPair .hl s

/-- R185, `ADD HL,HL`. -/
def execAddHlHl (s : State) : Answer := runAddHlPair .hl s

/-- R187, `DEC HL`. -/
def execDecHl (s : State) : Answer := runDecPair .hl s

/-- R186, `INC SP`. -/
def execIncSp (s : State) : Answer := runIncPair .sp s

/-- R185, `ADD HL,SP`. -/
def execAddHlSp (s : State) : Answer := runAddHlPair .sp s

/-- R187, `DEC SP`. -/
def execDecSp (s : State) : Answer := runDecPair .sp s

/-- R188, `ADD SP,r8`. -/
def execAddSpR8 (e : Byte) (s : State) : Answer := runAddSpOffset e s

end Sys2Proof.Machine
end

