-- ==== Sys2Proof/Machine/Rotate.lean ====
section
/-! DEFINITION. Rotates, shifts and bit operations (44_rotate_shift_bit.md): the shared operations R190 to R215, then the meaning of each instruction. -/

namespace Sys2Proof.Machine

/-- The accumulator rotates R190 to R193: Z always cleared. -/
def runRotAcc (op : RotOp) (s : State) : Answer :=
  let t := s.advance 1
  let r := shift op (t.reg .a) t.flags.c
  ((t.setReg .a r.1).setFlags (rotAccFlags r)).retire 4

/-- R190 `RLCA`. -/
def runRlca (s : State) : Answer := runRotAcc .rlc s

/-- R191 `RRCA`. -/
def runRrca (s : State) : Answer := runRotAcc .rrc s

/-- R192 `RLA`. -/
def runRla (s : State) : Answer := runRotAcc .rl s

/-- R193 `RRA`. -/
def runRra (s : State) : Answer := runRotAcc .rr s

/-- R194, R196, R198, R200, R202, R204, R206, R208: register form of the template. -/
def runRotReg (op : RotOp) (r : Reg) (s : State) : Answer :=
  let t := s.advance 2
  let x := shift op (t.reg r) t.flags.c
  ((t.setReg r x.1).setFlags (rotFlags x)).retire 8

/-- R195, R197, R199, R201, R203, R205, R207, R209: `(HL)` form of the template. -/
def runRotAtHl (op : RotOp) (s : State) : Answer :=
  let t := s.advance 2
  let x := shift op t.atHl t.flags.c
  ((t.writeByte t.hl x.1).setFlags (rotFlags x)).retire 16

/-- R210 `BIT b,r`. -/
def runBitReg (i : Idx8) (r : Reg) (s : State) : Answer :=
  let t := s.advance 2
  (t.setFlags (bitFlags (t.reg r) i t.flags)).retire 8

/-- R211 `BIT b,(HL)`: memory is not written. -/
def runBitAtHl (i : Idx8) (s : State) : Answer :=
  let t := s.advance 2
  (t.setFlags (bitFlags t.atHl i t.flags)).retire 12

/-- R212 `RES b,r`. -/
def runResReg (i : Idx8) (r : Reg) (s : State) : Answer :=
  let t := s.advance 2
  (t.setReg r (clearBit (t.reg r) i)).retire 8

/-- R213 `RES b,(HL)`: the write is performed even when the byte does not change. -/
def runResAtHl (i : Idx8) (s : State) : Answer :=
  let t := s.advance 2
  (t.writeByte t.hl (clearBit t.atHl i)).retire 16

/-- R214 `SET b,r`. -/
def runSetReg (i : Idx8) (r : Reg) (s : State) : Answer :=
  let t := s.advance 2
  (t.setReg r (setBit (t.reg r) i)).retire 8

/-- R215 `SET b,(HL)`. -/
def runSetAtHl (i : Idx8) (s : State) : Answer :=
  let t := s.advance 2
  (t.writeByte t.hl (setBit t.atHl i)).retire 16

/-- R190, `RLCA`. -/
def execRlca (s : State) : Answer := runRlca s

/-- R191, `RRCA`. -/
def execRrca (s : State) : Answer := runRrca s

/-- R192, `RLA`. -/
def execRla (s : State) : Answer := runRla s

/-- R193, `RRA`. -/
def execRra (s : State) : Answer := runRra s

/-- R194, `RLC B`. -/
def execRlcB (s : State) : Answer := runRotReg .rlc .b s

/-- R194, `RLC C`. -/
def execRlcC (s : State) : Answer := runRotReg .rlc .c s

/-- R194, `RLC D`. -/
def execRlcD (s : State) : Answer := runRotReg .rlc .d s

/-- R194, `RLC E`. -/
def execRlcE (s : State) : Answer := runRotReg .rlc .e s

/-- R194, `RLC H`. -/
def execRlcH (s : State) : Answer := runRotReg .rlc .h s

/-- R194, `RLC L`. -/
def execRlcL (s : State) : Answer := runRotReg .rlc .l s

/-- R195, `RLC (HL)`. -/
def execRlcAtHl (s : State) : Answer := runRotAtHl .rlc s

/-- R194, `RLC A`. -/
def execRlcA (s : State) : Answer := runRotReg .rlc .a s

/-- R196, `RRC B`. -/
def execRrcB (s : State) : Answer := runRotReg .rrc .b s

/-- R196, `RRC C`. -/
def execRrcC (s : State) : Answer := runRotReg .rrc .c s

/-- R196, `RRC D`. -/
def execRrcD (s : State) : Answer := runRotReg .rrc .d s

/-- R196, `RRC E`. -/
def execRrcE (s : State) : Answer := runRotReg .rrc .e s

/-- R196, `RRC H`. -/
def execRrcH (s : State) : Answer := runRotReg .rrc .h s

/-- R196, `RRC L`. -/
def execRrcL (s : State) : Answer := runRotReg .rrc .l s

/-- R197, `RRC (HL)`. -/
def execRrcAtHl (s : State) : Answer := runRotAtHl .rrc s

/-- R196, `RRC A`. -/
def execRrcA (s : State) : Answer := runRotReg .rrc .a s

/-- R198, `RL B`. -/
def execRlB (s : State) : Answer := runRotReg .rl .b s

/-- R198, `RL C`. -/
def execRlC (s : State) : Answer := runRotReg .rl .c s

/-- R198, `RL D`. -/
def execRlD (s : State) : Answer := runRotReg .rl .d s

/-- R198, `RL E`. -/
def execRlE (s : State) : Answer := runRotReg .rl .e s

/-- R198, `RL H`. -/
def execRlH (s : State) : Answer := runRotReg .rl .h s

/-- R198, `RL L`. -/
def execRlL (s : State) : Answer := runRotReg .rl .l s

/-- R199, `RL (HL)`. -/
def execRlAtHl (s : State) : Answer := runRotAtHl .rl s

/-- R198, `RL A`. -/
def execRlA (s : State) : Answer := runRotReg .rl .a s

/-- R200, `RR B`. -/
def execRrB (s : State) : Answer := runRotReg .rr .b s

/-- R200, `RR C`. -/
def execRrC (s : State) : Answer := runRotReg .rr .c s

/-- R200, `RR D`. -/
def execRrD (s : State) : Answer := runRotReg .rr .d s

/-- R200, `RR E`. -/
def execRrE (s : State) : Answer := runRotReg .rr .e s

/-- R200, `RR H`. -/
def execRrH (s : State) : Answer := runRotReg .rr .h s

/-- R200, `RR L`. -/
def execRrL (s : State) : Answer := runRotReg .rr .l s

/-- R201, `RR (HL)`. -/
def execRrAtHl (s : State) : Answer := runRotAtHl .rr s

/-- R200, `RR A`. -/
def execRrA (s : State) : Answer := runRotReg .rr .a s

/-- R202, `SLA B`. -/
def execSlaB (s : State) : Answer := runRotReg .sla .b s

/-- R202, `SLA C`. -/
def execSlaC (s : State) : Answer := runRotReg .sla .c s

/-- R202, `SLA D`. -/
def execSlaD (s : State) : Answer := runRotReg .sla .d s

/-- R202, `SLA E`. -/
def execSlaE (s : State) : Answer := runRotReg .sla .e s

/-- R202, `SLA H`. -/
def execSlaH (s : State) : Answer := runRotReg .sla .h s

/-- R202, `SLA L`. -/
def execSlaL (s : State) : Answer := runRotReg .sla .l s

/-- R203, `SLA (HL)`. -/
def execSlaAtHl (s : State) : Answer := runRotAtHl .sla s

/-- R202, `SLA A`. -/
def execSlaA (s : State) : Answer := runRotReg .sla .a s

/-- R204, `SRA B`. -/
def execSraB (s : State) : Answer := runRotReg .sra .b s

/-- R204, `SRA C`. -/
def execSraC (s : State) : Answer := runRotReg .sra .c s

/-- R204, `SRA D`. -/
def execSraD (s : State) : Answer := runRotReg .sra .d s

/-- R204, `SRA E`. -/
def execSraE (s : State) : Answer := runRotReg .sra .e s

/-- R204, `SRA H`. -/
def execSraH (s : State) : Answer := runRotReg .sra .h s

/-- R204, `SRA L`. -/
def execSraL (s : State) : Answer := runRotReg .sra .l s

/-- R205, `SRA (HL)`. -/
def execSraAtHl (s : State) : Answer := runRotAtHl .sra s

/-- R204, `SRA A`. -/
def execSraA (s : State) : Answer := runRotReg .sra .a s

/-- R206, `SWAP B`. -/
def execSwapB (s : State) : Answer := runRotReg .swap .b s

/-- R206, `SWAP C`. -/
def execSwapC (s : State) : Answer := runRotReg .swap .c s

/-- R206, `SWAP D`. -/
def execSwapD (s : State) : Answer := runRotReg .swap .d s

/-- R206, `SWAP E`. -/
def execSwapE (s : State) : Answer := runRotReg .swap .e s

/-- R206, `SWAP H`. -/
def execSwapH (s : State) : Answer := runRotReg .swap .h s

/-- R206, `SWAP L`. -/
def execSwapL (s : State) : Answer := runRotReg .swap .l s

/-- R207, `SWAP (HL)`. -/
def execSwapAtHl (s : State) : Answer := runRotAtHl .swap s

/-- R206, `SWAP A`. -/
def execSwapA (s : State) : Answer := runRotReg .swap .a s

/-- R208, `SRL B`. -/
def execSrlB (s : State) : Answer := runRotReg .srl .b s

/-- R208, `SRL C`. -/
def execSrlC (s : State) : Answer := runRotReg .srl .c s

/-- R208, `SRL D`. -/
def execSrlD (s : State) : Answer := runRotReg .srl .d s

/-- R208, `SRL E`. -/
def execSrlE (s : State) : Answer := runRotReg .srl .e s

/-- R208, `SRL H`. -/
def execSrlH (s : State) : Answer := runRotReg .srl .h s

/-- R208, `SRL L`. -/
def execSrlL (s : State) : Answer := runRotReg .srl .l s

/-- R209, `SRL (HL)`. -/
def execSrlAtHl (s : State) : Answer := runRotAtHl .srl s

/-- R208, `SRL A`. -/
def execSrlA (s : State) : Answer := runRotReg .srl .a s

/-- R210, `BIT 0,B`. -/
def execBit0B (s : State) : Answer := runBitReg .i0 .b s

/-- R210, `BIT 0,C`. -/
def execBit0C (s : State) : Answer := runBitReg .i0 .c s

/-- R210, `BIT 0,D`. -/
def execBit0D (s : State) : Answer := runBitReg .i0 .d s

/-- R210, `BIT 0,E`. -/
def execBit0E (s : State) : Answer := runBitReg .i0 .e s

/-- R210, `BIT 0,H`. -/
def execBit0H (s : State) : Answer := runBitReg .i0 .h s

/-- R210, `BIT 0,L`. -/
def execBit0L (s : State) : Answer := runBitReg .i0 .l s

/-- R211, `BIT 0,(HL)`. -/
def execBit0AtHl (s : State) : Answer := runBitAtHl .i0 s

/-- R210, `BIT 0,A`. -/
def execBit0A (s : State) : Answer := runBitReg .i0 .a s

/-- R210, `BIT 1,B`. -/
def execBit1B (s : State) : Answer := runBitReg .i1 .b s

/-- R210, `BIT 1,C`. -/
def execBit1C (s : State) : Answer := runBitReg .i1 .c s

/-- R210, `BIT 1,D`. -/
def execBit1D (s : State) : Answer := runBitReg .i1 .d s

/-- R210, `BIT 1,E`. -/
def execBit1E (s : State) : Answer := runBitReg .i1 .e s

/-- R210, `BIT 1,H`. -/
def execBit1H (s : State) : Answer := runBitReg .i1 .h s

/-- R210, `BIT 1,L`. -/
def execBit1L (s : State) : Answer := runBitReg .i1 .l s

/-- R211, `BIT 1,(HL)`. -/
def execBit1AtHl (s : State) : Answer := runBitAtHl .i1 s

/-- R210, `BIT 1,A`. -/
def execBit1A (s : State) : Answer := runBitReg .i1 .a s

/-- R210, `BIT 2,B`. -/
def execBit2B (s : State) : Answer := runBitReg .i2 .b s

/-- R210, `BIT 2,C`. -/
def execBit2C (s : State) : Answer := runBitReg .i2 .c s

/-- R210, `BIT 2,D`. -/
def execBit2D (s : State) : Answer := runBitReg .i2 .d s

/-- R210, `BIT 2,E`. -/
def execBit2E (s : State) : Answer := runBitReg .i2 .e s

/-- R210, `BIT 2,H`. -/
def execBit2H (s : State) : Answer := runBitReg .i2 .h s

/-- R210, `BIT 2,L`. -/
def execBit2L (s : State) : Answer := runBitReg .i2 .l s

/-- R211, `BIT 2,(HL)`. -/
def execBit2AtHl (s : State) : Answer := runBitAtHl .i2 s

/-- R210, `BIT 2,A`. -/
def execBit2A (s : State) : Answer := runBitReg .i2 .a s

/-- R210, `BIT 3,B`. -/
def execBit3B (s : State) : Answer := runBitReg .i3 .b s

/-- R210, `BIT 3,C`. -/
def execBit3C (s : State) : Answer := runBitReg .i3 .c s

/-- R210, `BIT 3,D`. -/
def execBit3D (s : State) : Answer := runBitReg .i3 .d s

/-- R210, `BIT 3,E`. -/
def execBit3E (s : State) : Answer := runBitReg .i3 .e s

/-- R210, `BIT 3,H`. -/
def execBit3H (s : State) : Answer := runBitReg .i3 .h s

/-- R210, `BIT 3,L`. -/
def execBit3L (s : State) : Answer := runBitReg .i3 .l s

/-- R211, `BIT 3,(HL)`. -/
def execBit3AtHl (s : State) : Answer := runBitAtHl .i3 s

/-- R210, `BIT 3,A`. -/
def execBit3A (s : State) : Answer := runBitReg .i3 .a s

/-- R210, `BIT 4,B`. -/
def execBit4B (s : State) : Answer := runBitReg .i4 .b s

/-- R210, `BIT 4,C`. -/
def execBit4C (s : State) : Answer := runBitReg .i4 .c s

/-- R210, `BIT 4,D`. -/
def execBit4D (s : State) : Answer := runBitReg .i4 .d s

/-- R210, `BIT 4,E`. -/
def execBit4E (s : State) : Answer := runBitReg .i4 .e s

/-- R210, `BIT 4,H`. -/
def execBit4H (s : State) : Answer := runBitReg .i4 .h s

/-- R210, `BIT 4,L`. -/
def execBit4L (s : State) : Answer := runBitReg .i4 .l s

/-- R211, `BIT 4,(HL)`. -/
def execBit4AtHl (s : State) : Answer := runBitAtHl .i4 s

/-- R210, `BIT 4,A`. -/
def execBit4A (s : State) : Answer := runBitReg .i4 .a s

/-- R210, `BIT 5,B`. -/
def execBit5B (s : State) : Answer := runBitReg .i5 .b s

/-- R210, `BIT 5,C`. -/
def execBit5C (s : State) : Answer := runBitReg .i5 .c s

/-- R210, `BIT 5,D`. -/
def execBit5D (s : State) : Answer := runBitReg .i5 .d s

/-- R210, `BIT 5,E`. -/
def execBit5E (s : State) : Answer := runBitReg .i5 .e s

/-- R210, `BIT 5,H`. -/
def execBit5H (s : State) : Answer := runBitReg .i5 .h s

/-- R210, `BIT 5,L`. -/
def execBit5L (s : State) : Answer := runBitReg .i5 .l s

/-- R211, `BIT 5,(HL)`. -/
def execBit5AtHl (s : State) : Answer := runBitAtHl .i5 s

/-- R210, `BIT 5,A`. -/
def execBit5A (s : State) : Answer := runBitReg .i5 .a s

/-- R210, `BIT 6,B`. -/
def execBit6B (s : State) : Answer := runBitReg .i6 .b s

/-- R210, `BIT 6,C`. -/
def execBit6C (s : State) : Answer := runBitReg .i6 .c s

/-- R210, `BIT 6,D`. -/
def execBit6D (s : State) : Answer := runBitReg .i6 .d s

/-- R210, `BIT 6,E`. -/
def execBit6E (s : State) : Answer := runBitReg .i6 .e s

/-- R210, `BIT 6,H`. -/
def execBit6H (s : State) : Answer := runBitReg .i6 .h s

/-- R210, `BIT 6,L`. -/
def execBit6L (s : State) : Answer := runBitReg .i6 .l s

/-- R211, `BIT 6,(HL)`. -/
def execBit6AtHl (s : State) : Answer := runBitAtHl .i6 s

/-- R210, `BIT 6,A`. -/
def execBit6A (s : State) : Answer := runBitReg .i6 .a s

/-- R210, `BIT 7,B`. -/
def execBit7B (s : State) : Answer := runBitReg .i7 .b s

/-- R210, `BIT 7,C`. -/
def execBit7C (s : State) : Answer := runBitReg .i7 .c s

/-- R210, `BIT 7,D`. -/
def execBit7D (s : State) : Answer := runBitReg .i7 .d s

/-- R210, `BIT 7,E`. -/
def execBit7E (s : State) : Answer := runBitReg .i7 .e s

/-- R210, `BIT 7,H`. -/
def execBit7H (s : State) : Answer := runBitReg .i7 .h s

/-- R210, `BIT 7,L`. -/
def execBit7L (s : State) : Answer := runBitReg .i7 .l s

/-- R211, `BIT 7,(HL)`. -/
def execBit7AtHl (s : State) : Answer := runBitAtHl .i7 s

/-- R210, `BIT 7,A`. -/
def execBit7A (s : State) : Answer := runBitReg .i7 .a s

/-- R212, `RES 0,B`. -/
def execRes0B (s : State) : Answer := runResReg .i0 .b s

/-- R212, `RES 0,C`. -/
def execRes0C (s : State) : Answer := runResReg .i0 .c s

/-- R212, `RES 0,D`. -/
def execRes0D (s : State) : Answer := runResReg .i0 .d s

/-- R212, `RES 0,E`. -/
def execRes0E (s : State) : Answer := runResReg .i0 .e s

/-- R212, `RES 0,H`. -/
def execRes0H (s : State) : Answer := runResReg .i0 .h s

/-- R212, `RES 0,L`. -/
def execRes0L (s : State) : Answer := runResReg .i0 .l s

/-- R213, `RES 0,(HL)`. -/
def execRes0AtHl (s : State) : Answer := runResAtHl .i0 s

/-- R212, `RES 0,A`. -/
def execRes0A (s : State) : Answer := runResReg .i0 .a s

/-- R212, `RES 1,B`. -/
def execRes1B (s : State) : Answer := runResReg .i1 .b s

/-- R212, `RES 1,C`. -/
def execRes1C (s : State) : Answer := runResReg .i1 .c s

/-- R212, `RES 1,D`. -/
def execRes1D (s : State) : Answer := runResReg .i1 .d s

/-- R212, `RES 1,E`. -/
def execRes1E (s : State) : Answer := runResReg .i1 .e s

/-- R212, `RES 1,H`. -/
def execRes1H (s : State) : Answer := runResReg .i1 .h s

/-- R212, `RES 1,L`. -/
def execRes1L (s : State) : Answer := runResReg .i1 .l s

/-- R213, `RES 1,(HL)`. -/
def execRes1AtHl (s : State) : Answer := runResAtHl .i1 s

/-- R212, `RES 1,A`. -/
def execRes1A (s : State) : Answer := runResReg .i1 .a s

/-- R212, `RES 2,B`. -/
def execRes2B (s : State) : Answer := runResReg .i2 .b s

/-- R212, `RES 2,C`. -/
def execRes2C (s : State) : Answer := runResReg .i2 .c s

/-- R212, `RES 2,D`. -/
def execRes2D (s : State) : Answer := runResReg .i2 .d s

/-- R212, `RES 2,E`. -/
def execRes2E (s : State) : Answer := runResReg .i2 .e s

/-- R212, `RES 2,H`. -/
def execRes2H (s : State) : Answer := runResReg .i2 .h s

/-- R212, `RES 2,L`. -/
def execRes2L (s : State) : Answer := runResReg .i2 .l s

/-- R213, `RES 2,(HL)`. -/
def execRes2AtHl (s : State) : Answer := runResAtHl .i2 s

/-- R212, `RES 2,A`. -/
def execRes2A (s : State) : Answer := runResReg .i2 .a s

/-- R212, `RES 3,B`. -/
def execRes3B (s : State) : Answer := runResReg .i3 .b s

/-- R212, `RES 3,C`. -/
def execRes3C (s : State) : Answer := runResReg .i3 .c s

/-- R212, `RES 3,D`. -/
def execRes3D (s : State) : Answer := runResReg .i3 .d s

/-- R212, `RES 3,E`. -/
def execRes3E (s : State) : Answer := runResReg .i3 .e s

/-- R212, `RES 3,H`. -/
def execRes3H (s : State) : Answer := runResReg .i3 .h s

/-- R212, `RES 3,L`. -/
def execRes3L (s : State) : Answer := runResReg .i3 .l s

/-- R213, `RES 3,(HL)`. -/
def execRes3AtHl (s : State) : Answer := runResAtHl .i3 s

/-- R212, `RES 3,A`. -/
def execRes3A (s : State) : Answer := runResReg .i3 .a s

/-- R212, `RES 4,B`. -/
def execRes4B (s : State) : Answer := runResReg .i4 .b s

/-- R212, `RES 4,C`. -/
def execRes4C (s : State) : Answer := runResReg .i4 .c s

/-- R212, `RES 4,D`. -/
def execRes4D (s : State) : Answer := runResReg .i4 .d s

/-- R212, `RES 4,E`. -/
def execRes4E (s : State) : Answer := runResReg .i4 .e s

/-- R212, `RES 4,H`. -/
def execRes4H (s : State) : Answer := runResReg .i4 .h s

/-- R212, `RES 4,L`. -/
def execRes4L (s : State) : Answer := runResReg .i4 .l s

/-- R213, `RES 4,(HL)`. -/
def execRes4AtHl (s : State) : Answer := runResAtHl .i4 s

/-- R212, `RES 4,A`. -/
def execRes4A (s : State) : Answer := runResReg .i4 .a s

/-- R212, `RES 5,B`. -/
def execRes5B (s : State) : Answer := runResReg .i5 .b s

/-- R212, `RES 5,C`. -/
def execRes5C (s : State) : Answer := runResReg .i5 .c s

/-- R212, `RES 5,D`. -/
def execRes5D (s : State) : Answer := runResReg .i5 .d s

/-- R212, `RES 5,E`. -/
def execRes5E (s : State) : Answer := runResReg .i5 .e s

/-- R212, `RES 5,H`. -/
def execRes5H (s : State) : Answer := runResReg .i5 .h s

/-- R212, `RES 5,L`. -/
def execRes5L (s : State) : Answer := runResReg .i5 .l s

/-- R213, `RES 5,(HL)`. -/
def execRes5AtHl (s : State) : Answer := runResAtHl .i5 s

/-- R212, `RES 5,A`. -/
def execRes5A (s : State) : Answer := runResReg .i5 .a s

/-- R212, `RES 6,B`. -/
def execRes6B (s : State) : Answer := runResReg .i6 .b s

/-- R212, `RES 6,C`. -/
def execRes6C (s : State) : Answer := runResReg .i6 .c s

/-- R212, `RES 6,D`. -/
def execRes6D (s : State) : Answer := runResReg .i6 .d s

/-- R212, `RES 6,E`. -/
def execRes6E (s : State) : Answer := runResReg .i6 .e s

/-- R212, `RES 6,H`. -/
def execRes6H (s : State) : Answer := runResReg .i6 .h s

/-- R212, `RES 6,L`. -/
def execRes6L (s : State) : Answer := runResReg .i6 .l s

/-- R213, `RES 6,(HL)`. -/
def execRes6AtHl (s : State) : Answer := runResAtHl .i6 s

/-- R212, `RES 6,A`. -/
def execRes6A (s : State) : Answer := runResReg .i6 .a s

/-- R212, `RES 7,B`. -/
def execRes7B (s : State) : Answer := runResReg .i7 .b s

/-- R212, `RES 7,C`. -/
def execRes7C (s : State) : Answer := runResReg .i7 .c s

/-- R212, `RES 7,D`. -/
def execRes7D (s : State) : Answer := runResReg .i7 .d s

/-- R212, `RES 7,E`. -/
def execRes7E (s : State) : Answer := runResReg .i7 .e s

/-- R212, `RES 7,H`. -/
def execRes7H (s : State) : Answer := runResReg .i7 .h s

/-- R212, `RES 7,L`. -/
def execRes7L (s : State) : Answer := runResReg .i7 .l s

/-- R213, `RES 7,(HL)`. -/
def execRes7AtHl (s : State) : Answer := runResAtHl .i7 s

/-- R212, `RES 7,A`. -/
def execRes7A (s : State) : Answer := runResReg .i7 .a s

/-- R214, `SET 0,B`. -/
def execSet0B (s : State) : Answer := runSetReg .i0 .b s

/-- R214, `SET 0,C`. -/
def execSet0C (s : State) : Answer := runSetReg .i0 .c s

/-- R214, `SET 0,D`. -/
def execSet0D (s : State) : Answer := runSetReg .i0 .d s

/-- R214, `SET 0,E`. -/
def execSet0E (s : State) : Answer := runSetReg .i0 .e s

/-- R214, `SET 0,H`. -/
def execSet0H (s : State) : Answer := runSetReg .i0 .h s

/-- R214, `SET 0,L`. -/
def execSet0L (s : State) : Answer := runSetReg .i0 .l s

/-- R215, `SET 0,(HL)`. -/
def execSet0AtHl (s : State) : Answer := runSetAtHl .i0 s

/-- R214, `SET 0,A`. -/
def execSet0A (s : State) : Answer := runSetReg .i0 .a s

/-- R214, `SET 1,B`. -/
def execSet1B (s : State) : Answer := runSetReg .i1 .b s

/-- R214, `SET 1,C`. -/
def execSet1C (s : State) : Answer := runSetReg .i1 .c s

/-- R214, `SET 1,D`. -/
def execSet1D (s : State) : Answer := runSetReg .i1 .d s

/-- R214, `SET 1,E`. -/
def execSet1E (s : State) : Answer := runSetReg .i1 .e s

/-- R214, `SET 1,H`. -/
def execSet1H (s : State) : Answer := runSetReg .i1 .h s

/-- R214, `SET 1,L`. -/
def execSet1L (s : State) : Answer := runSetReg .i1 .l s

/-- R215, `SET 1,(HL)`. -/
def execSet1AtHl (s : State) : Answer := runSetAtHl .i1 s

/-- R214, `SET 1,A`. -/
def execSet1A (s : State) : Answer := runSetReg .i1 .a s

/-- R214, `SET 2,B`. -/
def execSet2B (s : State) : Answer := runSetReg .i2 .b s

/-- R214, `SET 2,C`. -/
def execSet2C (s : State) : Answer := runSetReg .i2 .c s

/-- R214, `SET 2,D`. -/
def execSet2D (s : State) : Answer := runSetReg .i2 .d s

/-- R214, `SET 2,E`. -/
def execSet2E (s : State) : Answer := runSetReg .i2 .e s

/-- R214, `SET 2,H`. -/
def execSet2H (s : State) : Answer := runSetReg .i2 .h s

/-- R214, `SET 2,L`. -/
def execSet2L (s : State) : Answer := runSetReg .i2 .l s

/-- R215, `SET 2,(HL)`. -/
def execSet2AtHl (s : State) : Answer := runSetAtHl .i2 s

/-- R214, `SET 2,A`. -/
def execSet2A (s : State) : Answer := runSetReg .i2 .a s

/-- R214, `SET 3,B`. -/
def execSet3B (s : State) : Answer := runSetReg .i3 .b s

/-- R214, `SET 3,C`. -/
def execSet3C (s : State) : Answer := runSetReg .i3 .c s

/-- R214, `SET 3,D`. -/
def execSet3D (s : State) : Answer := runSetReg .i3 .d s

/-- R214, `SET 3,E`. -/
def execSet3E (s : State) : Answer := runSetReg .i3 .e s

/-- R214, `SET 3,H`. -/
def execSet3H (s : State) : Answer := runSetReg .i3 .h s

/-- R214, `SET 3,L`. -/
def execSet3L (s : State) : Answer := runSetReg .i3 .l s

/-- R215, `SET 3,(HL)`. -/
def execSet3AtHl (s : State) : Answer := runSetAtHl .i3 s

/-- R214, `SET 3,A`. -/
def execSet3A (s : State) : Answer := runSetReg .i3 .a s

/-- R214, `SET 4,B`. -/
def execSet4B (s : State) : Answer := runSetReg .i4 .b s

/-- R214, `SET 4,C`. -/
def execSet4C (s : State) : Answer := runSetReg .i4 .c s

/-- R214, `SET 4,D`. -/
def execSet4D (s : State) : Answer := runSetReg .i4 .d s

/-- R214, `SET 4,E`. -/
def execSet4E (s : State) : Answer := runSetReg .i4 .e s

/-- R214, `SET 4,H`. -/
def execSet4H (s : State) : Answer := runSetReg .i4 .h s

/-- R214, `SET 4,L`. -/
def execSet4L (s : State) : Answer := runSetReg .i4 .l s

/-- R215, `SET 4,(HL)`. -/
def execSet4AtHl (s : State) : Answer := runSetAtHl .i4 s

/-- R214, `SET 4,A`. -/
def execSet4A (s : State) : Answer := runSetReg .i4 .a s

/-- R214, `SET 5,B`. -/
def execSet5B (s : State) : Answer := runSetReg .i5 .b s

/-- R214, `SET 5,C`. -/
def execSet5C (s : State) : Answer := runSetReg .i5 .c s

/-- R214, `SET 5,D`. -/
def execSet5D (s : State) : Answer := runSetReg .i5 .d s

/-- R214, `SET 5,E`. -/
def execSet5E (s : State) : Answer := runSetReg .i5 .e s

/-- R214, `SET 5,H`. -/
def execSet5H (s : State) : Answer := runSetReg .i5 .h s

/-- R214, `SET 5,L`. -/
def execSet5L (s : State) : Answer := runSetReg .i5 .l s

/-- R215, `SET 5,(HL)`. -/
def execSet5AtHl (s : State) : Answer := runSetAtHl .i5 s

/-- R214, `SET 5,A`. -/
def execSet5A (s : State) : Answer := runSetReg .i5 .a s

/-- R214, `SET 6,B`. -/
def execSet6B (s : State) : Answer := runSetReg .i6 .b s

/-- R214, `SET 6,C`. -/
def execSet6C (s : State) : Answer := runSetReg .i6 .c s

/-- R214, `SET 6,D`. -/
def execSet6D (s : State) : Answer := runSetReg .i6 .d s

/-- R214, `SET 6,E`. -/
def execSet6E (s : State) : Answer := runSetReg .i6 .e s

/-- R214, `SET 6,H`. -/
def execSet6H (s : State) : Answer := runSetReg .i6 .h s

/-- R214, `SET 6,L`. -/
def execSet6L (s : State) : Answer := runSetReg .i6 .l s

/-- R215, `SET 6,(HL)`. -/
def execSet6AtHl (s : State) : Answer := runSetAtHl .i6 s

/-- R214, `SET 6,A`. -/
def execSet6A (s : State) : Answer := runSetReg .i6 .a s

/-- R214, `SET 7,B`. -/
def execSet7B (s : State) : Answer := runSetReg .i7 .b s

/-- R214, `SET 7,C`. -/
def execSet7C (s : State) : Answer := runSetReg .i7 .c s

/-- R214, `SET 7,D`. -/
def execSet7D (s : State) : Answer := runSetReg .i7 .d s

/-- R214, `SET 7,E`. -/
def execSet7E (s : State) : Answer := runSetReg .i7 .e s

/-- R214, `SET 7,H`. -/
def execSet7H (s : State) : Answer := runSetReg .i7 .h s

/-- R214, `SET 7,L`. -/
def execSet7L (s : State) : Answer := runSetReg .i7 .l s

/-- R215, `SET 7,(HL)`. -/
def execSet7AtHl (s : State) : Answer := runSetAtHl .i7 s

/-- R214, `SET 7,A`. -/
def execSet7A (s : State) : Answer := runSetReg .i7 .a s

end Sys2Proof.Machine
end

