-- ==== Sys2Proof/Machine/Control.lean ====
section
/-! DEFINITION. Jumps, calls, returns and restarts (45_control_flow.md): the shared operations R221 to R231, then the meaning of each instruction. -/

namespace Sys2Proof.Machine

/-- R221 `JP a16`. -/
def runJpAbs (w : Word) (s : State) : Answer :=
  ((s.advance 3).setPc w).retire 16

/-- R222 `JP cc,a16`. -/
def runJpCond (cc : Cond) (w : Word) (s : State) : Answer :=
  let t := s.advance 3
  if t.flags.cond cc then (t.setPc w).retire 16 else t.retire 12

/-- R223 `JP (HL)`: no memory is read. -/
def runJpHl (s : State) : Answer :=
  let t := s.advance 1
  (t.setPc t.hl).retire 4

/-- R224 `JR r8`. -/
def runJrRel (e : Byte) (s : State) : Answer :=
  let t := s.advance 2
  (t.setPc (t.relTarget e)).retire 12

/-- R225 `JR cc,r8`. -/
def runJrCond (cc : Cond) (e : Byte) (s : State) : Answer :=
  let t := s.advance 2
  if t.flags.cond cc then (t.setPc (t.relTarget e)).retire 12 else t.retire 8

/-- R226 `CALL a16`: the pushed `PC` is the address of the next instruction. -/
def runCallAbs (w : Word) (s : State) : Answer :=
  let t := s.advance 3
  ((t.push16 t.pc).setPc w).retire 24

/-- R227 `CALL cc,a16`. -/
def runCallCond (cc : Cond) (w : Word) (s : State) : Answer :=
  let t := s.advance 3
  if t.flags.cond cc then ((t.push16 t.pc).setPc w).retire 24 else t.retire 12

/-- R228 `RET`. -/
def runRet (s : State) : Answer :=
  let t := s.advance 1
  (t.popped.setPc t.popValue).retire 16

/-- R229 `RET cc`. -/
def runRetCond (cc : Cond) (s : State) : Answer :=
  let t := s.advance 1
  if t.flags.cond cc then (t.popped.setPc t.popValue).retire 20 else t.retire 8

/-- R230 `RETI`. -/
def runReti (s : State) : Answer :=
  (s.advance 1).returnInterrupt.retire 16

/-- R231 `RST n`. -/
def runRst (t : Idx8) (s : State) : Answer :=
  let u := s.advance 1
  ((u.push16 u.pc).setPc (restartAddress t)).retire 16

/-- R224, `JR r8`. -/
def execJrR8 (e : Byte) (s : State) : Answer := runJrRel e s

/-- R225, `JR NZ,r8`. -/
def execJrNzR8 (e : Byte) (s : State) : Answer := runJrCond .nz e s

/-- R225, `JR Z,r8`. -/
def execJrZR8 (e : Byte) (s : State) : Answer := runJrCond .z e s

/-- R225, `JR NC,r8`. -/
def execJrNcR8 (e : Byte) (s : State) : Answer := runJrCond .nc e s

/-- R225, `JR C,r8`. -/
def execJrCR8 (e : Byte) (s : State) : Answer := runJrCond .c e s

/-- R229, `RET NZ`. -/
def execRetNz (s : State) : Answer := runRetCond .nz s

/-- R222, `JP NZ,a16`. -/
def execJpNzA16 (w : Word) (s : State) : Answer := runJpCond .nz w s

/-- R221, `JP a16`. -/
def execJpA16 (w : Word) (s : State) : Answer := runJpAbs w s

/-- R227, `CALL NZ,a16`. -/
def execCallNzA16 (w : Word) (s : State) : Answer := runCallCond .nz w s

/-- R231, `RST 00H`. -/
def execRst00 (s : State) : Answer := runRst .i0 s

/-- R229, `RET Z`. -/
def execRetZ (s : State) : Answer := runRetCond .z s

/-- R228, `RET`. -/
def execRet (s : State) : Answer := runRet s

/-- R222, `JP Z,a16`. -/
def execJpZA16 (w : Word) (s : State) : Answer := runJpCond .z w s

/-- R227, `CALL Z,a16`. -/
def execCallZA16 (w : Word) (s : State) : Answer := runCallCond .z w s

/-- R226, `CALL a16`. -/
def execCallA16 (w : Word) (s : State) : Answer := runCallAbs w s

/-- R231, `RST 08H`. -/
def execRst08 (s : State) : Answer := runRst .i1 s

/-- R229, `RET NC`. -/
def execRetNc (s : State) : Answer := runRetCond .nc s

/-- R222, `JP NC,a16`. -/
def execJpNcA16 (w : Word) (s : State) : Answer := runJpCond .nc w s

/-- R227, `CALL NC,a16`. -/
def execCallNcA16 (w : Word) (s : State) : Answer := runCallCond .nc w s

/-- R231, `RST 10H`. -/
def execRst10 (s : State) : Answer := runRst .i2 s

/-- R229, `RET C`. -/
def execRetC (s : State) : Answer := runRetCond .c s

/-- R230, `RETI`. -/
def execReti (s : State) : Answer := runReti s

/-- R222, `JP C,a16`. -/
def execJpCA16 (w : Word) (s : State) : Answer := runJpCond .c w s

/-- R227, `CALL C,a16`. -/
def execCallCA16 (w : Word) (s : State) : Answer := runCallCond .c w s

/-- R231, `RST 18H`. -/
def execRst18 (s : State) : Answer := runRst .i3 s

/-- R231, `RST 20H`. -/
def execRst20 (s : State) : Answer := runRst .i4 s

/-- R223, `JP (HL)`. -/
def execJpAtHl (s : State) : Answer := runJpHl s

/-- R231, `RST 28H`. -/
def execRst28 (s : State) : Answer := runRst .i5 s

/-- R231, `RST 30H`. -/
def execRst30 (s : State) : Answer := runRst .i6 s

/-- R231, `RST 38H`. -/
def execRst38 (s : State) : Answer := runRst .i7 s

end Sys2Proof.Machine
end

