-- ==== Sys2Proof/Machine/System.lean ====
section
/-! DEFINITION. NOP, HALT, STOP, DI, EI (46_misc_control.md R235 to R239) and the undefined bytes (R76): the shared operations, then the meaning of each instruction. -/

namespace Sys2Proof.Machine

/-- R235 `NOP`. -/
def runNop (s : State) : Answer :=
  (s.advance 1).retire 4

/-- R236 `HALT`.  With `IME` = 0 and a request in this step's sample the spec gives no meaning (R268). -/
def runHalt (s : State) : Answer :=
  match s.ime, s.irqSample with
  | false, some _ => .refused .haltWithPendingRequest
  | _, _ => ((s.advance 1).setRun .halted).retire 4

/-- R237 `STOP`; the padding byte is consumed and ignored. -/
def runStop (_pad : Byte) (s : State) : Answer :=
  ((s.advance 2).setRun .stopped).retire 4

/-- R238 `DI`. -/
def runDi (s : State) : Answer :=
  (((s.advance 1).setIme false).setImeSched false).retire 4

/-- R239 `EI`: at once with `EI_DELAY` = 0, else scheduled when `IME` is 0. -/
def runEi (s : State) : Answer :=
  let t := s.advance 1
  if t.params.eiDelay = 0 then (t.setIme true).retire 4
  else if t.ime = false then (t.setImeSched true).retire 4
  else t.retire 4

/-- R76, R264: the byte at `PC` has no table entry.  The fault is raised, `PC` stays at the byte, and
nothing else changes; no cycle is added (R253). -/
def runIllegal (b : Byte) (s : State) : Answer :=
  .next (s.raise (.unimplementedOpcode b s.pc))

/-- R235, `NOP`. -/
def execNop (s : State) : Answer := runNop s

/-- R237, `STOP`. -/
def execStop (pad : Byte) (s : State) : Answer := runStop pad s

/-- R236, `HALT`. -/
def execHalt (s : State) : Answer := runHalt s

/-- R238, `DI`. -/
def execDi (s : State) : Answer := runDi s

/-- R239, `EI`. -/
def execEi (s : State) : Answer := runEi s

/-- R76, a byte with no table entry. -/
def execIllegal (b : Byte) (s : State) : Answer := runIllegal b s

end Sys2Proof.Machine
end

