-- ==== Sys2Proof/Machine/Debug.lean ====
section
/-! DEFINITION. The debug unit (60_exceptions.md section 8): the breakpoint set, the disassembler, the
read-out and what each host action does to the block. -/

namespace Sys2Proof.Machine

/-- The instruction at an address of memory (R82, execute path); addresses wrap (R240). -/
def decodeAt (m : Memory) (a : Word) : Instr :=
  decodeBytes (m.read a.toNat) (m.read (a + 1).toNat) (m.read (a + 2).toNat)

/-- An address put into an ascending set (R25, R291). -/
def insertAscending (x : Word) : List Word → List Word
  | [] => [x]
  | y :: ys =>
    if x.toNat < y.toNat then x :: y :: ys
    else if x = y then y :: ys
    else y :: insertAscending x ys

/-- `isBreakpoint(pc)` (R291). -/
def State.isBreakpoint (s : State) (pc : Word) : Bool := s.bp.elem pc

/-- `add(x)` (R291). -/
def State.addBreakpoint (s : State) (x : Word) : State := s.setBp (insertAscending x s.bp)

/-- `remove(i)`; an index out of range changes nothing (R291). -/
def State.removeBreakpoint (s : State) (i : Nat) : State := s.setBp (s.bp.eraseIdx i)

/-- `list()`: index and address, ascending, from 0 (R291). -/
def State.listBreakpoints (s : State) : List (Nat × Word) := s.bp.zipIdx.map fun p => (p.2, p.1)

/-- One entry of a disassembly with the length its cursor moves by (R82, R294). -/
structure DisasmEntry where
  address : Word
  mnemonic : String
  operands : List Byte
  length : Nat
  deriving DecidableEq, Repr

/-- `Disasm(mem, a)` (R82): the same decoder, the raw bytes after the first; an undefined byte gives
`ILLEGAL` of length 1. -/
def disasm (m : Memory) (a : Word) : DisasmEntry :=
  match (decodeAt m a).desc with
  | some d => ⟨a, d.mnemonic, (List.range (d.length - 1)).map fun k => m.read (a + BitVec.ofNat 16 (k + 1)).toNat, d.length⟩
  | none => ⟨a, "ILLEGAL", [], 1⟩

/-- `Dis(mem, a, count)` (R294). -/
def disassemble (m : Memory) : Word → Nat → List DisasmEntry
  | _, 0 => []
  | a, k + 1 => disasm m a :: disassemble m (a + BitVec.ofNat 16 (disasm m a).length) k

/-- The host command `l` (R294). -/
def State.listing (s : State) : List DisasmEntry := disassemble s.mem s.pc Config.disasmCount

/-- What the host command `p` shows (R295). -/
structure ReadOut where
  regs : RegFile
  f : Byte
  sp : Word
  pc : Word
  deriving DecidableEq, Repr

/-- The read-out of registers, flags, `SP` and `PC` (R295). -/
def State.readOut (s : State) : ReadOut := ⟨s.regs, s.flags.toByte, s.sp, s.pc⟩

/-- What one host action does to a paused machine (R291, R293): `STEP`, `CONTINUE` and `NOOP` change
nothing here, and the pause request is for a free-running machine only. -/
def State.pausedAct (s : State) : HostCmd → State
  | .brk => s.setDbgMode .freeRunning
  | .exit => s.setExited true
  | .addBreakpoint x => s.addBreakpoint x
  | .removeBreakpoint i => s.removeBreakpoint i
  | .step => s
  | .cont => s
  | .noop => s
  | .pause => s

/-- What one host action does to a free-running machine: the pause request only (R245, R296). -/
def State.freeAct (s : State) : HostCmd → State
  | .pause => s.setDbgMode .paused
  | .step => s
  | .brk => s
  | .cont => s
  | .noop => s
  | .exit => s
  | .addBreakpoint _ => s
  | .removeBreakpoint _ => s

/-- What one host action does to the block before the step; after `EXIT` there is no run to act on
(R256).  DESIGN CHOICE (log 22): R291 and R293 ask only for a paused machine and R262 lets a faulted one keep
all other state, so the spec leaves open whether the host still acts on a stopped or faulted machine; here
it does, on `bp`, `dbgMode` and `exited` alone. -/
def State.hostAct (s : State) (c : HostCmd) : State :=
  if s.exited then s
  else match s.dbgMode with
    | .paused => s.pausedAct c
    | .freeRunning => s.freeAct c

/-- The host action of this step: the next one the feed gives, or none. -/
def State.hostCmd (s : State) : HostCmd := s.hostIn.head .noop Config.hostOracle

/-- Whether the host asked for this step with `STEP` (R252, R293). -/
def State.single (s : State) : Bool := decide (s.hostCmd = .step) && decide (s.dbgMode = .paused)

/-- The state after this step's host action, which is used up. -/
def State.afterHost (s : State) : State := (s.setHostIn s.hostIn.tail).hostAct s.hostCmd

end Sys2Proof.Machine
end

