-- ==== Sys2Proof/Machine/Engine.lean ====
section
/-! DEFINITION. The parts of a step (50_step.md): breakpoint test, fetch and execute or idle, clock,
`EI` commit, interrupt poll, in the order of R252; and the bytes of an instruction put where the step
fetches. -/

namespace Sys2Proof.Machine

/-- The instruction part of a step: the instruction at `PC`, or one idle step when halted (R246, R249). -/
def State.execute (s : State) : Answer :=
  match s.run with
  | .running => exec (decodeAt s.mem s.pc) s
  | _ => .next (s.addClk s.params.haltTick)

/-- Commit of a delayed `EI`, `sched0` being `ime_sched` at the start of the step (R248). -/
def State.commitEi (s : State) (sched0 : Bool) : State :=
  if sched0 && s.imeSched then (s.setIme true).setImeSched false else s

/-- A presented request ends the halted state, whatever `IME` is (R272). -/
def State.wake (s : State) : State :=
  match s.run with
  | .halted => s.setRun .running
  | _ => s

/-- The interrupt poll with the sample `q` (R272). -/
def State.poll (s : State) (q : Option Word) : State :=
  match q with
  | none => s
  | some v => if s.ime then s.wake.enterInterrupt v else s.wake

/-- The poll of a step; a `STOP` executed in it ends polling at once (R252). -/
def State.pollUnlessStopped (s : State) (q : Option Word) : State :=
  match s.run with
  | .stopped => s
  | _ => s.poll q

/-- This step's `IRQ` sample used up (R252). -/
def State.dropSample (s : State) : State := s.setIrqIn s.irqIn.tail

/-- The rest of an executing step that started in `s` and whose instruction part left `t` (R252): a
fault ends it at once (R250); else commit, poll and report. -/
def State.finish (s t : State) : State :=
  match t.run with
  | .faulted f => t.dropSample.report (.fault f) 0
  | _ =>
    let u := (t.commitEi s.imeSched).pollUnlessStopped s.irqSample
    u.dropSample.report .ok (u.clk - s.clk)

/-- A step that reaches the instruction part (R252). -/
def State.executingStep (s : State) : Answer :=
  match s.execute with
  | .next t => .next (s.finish t)
  | .fault f => .fault f
  | .refused r => .refused r

/-- Whether a step exists: the run has not ended (R250, R256). -/
def State.live (s : State) : Bool :=
  !s.exited && (match s.run with
    | .running | .halted => true
    | .stopped | .faulted _ => false)

/-- Whether the breakpoint test stops this step (R251). -/
def State.breaks (s : State) : Bool :=
  decide (s.dbgMode = .freeRunning) && decide (s.run = .running) && s.isBreakpoint s.pc

/-- `Step` of R252 with `single`; its `IRQ` sample is the head of `irqIn`. -/
def State.stepWith (s : State) (single : Bool) : Answer :=
  if !s.live then .next (s.report .ended 0)
  else if decide (s.dbgMode = .paused) && !single then .next (s.report .waitingForHost 0)
  else if s.breaks then .next ((s.setDbgMode .paused).report (.breakpointHit s.pc) 0)
  else s.executingStep

/-- One step of the machine: the host's action, if one is waiting, then `Step`, with no acknowledge put
out unless this step's poll does. -/
def machineStep (s : State) : Answer := (s.afterHost.setAck none).stepWith s.single

/-- Three bytes stored from `PC` upward, where a step fetches its next instruction; no write event. -/
def State.placeInstruction (s : State) (b0 b1 b2 : Byte) : State :=
  s.setMem (((s.mem.write s.pc.toNat b0).write (s.pc + 1).toNat b1).write (s.pc + 2).toNat b2)

end Sys2Proof.Machine
end

