-- ==== Sys2Proof/Machine/Step.lean ====
section
/-! DEFINITION. `step`, and an instruction word placed where the next step fetches. -/

namespace Sys2Proof.Machine

/-- One step of the machine (R252). -/
def step (s : State) : Host.Outcome State Fault Refusal := machineStep s

/-- `s` with the instruction of a table word stored at `PC`, its operand bytes above `nbits` zero. -/
def State.withFetchWord (s : State) (nbits w : Nat) : State :=
  s.placeInstruction (tableWordBytes nbits w).1 (tableWordBytes nbits w).2.1 (tableWordBytes nbits w).2.2

end Sys2Proof.Machine
end

