-- ==== Sys2Proof/Machine/Run.lean ====
section
/-! DEFINITION. The observable record of a run (50_step.md R259), built over `step`. -/

namespace Sys2Proof.Machine

/-- What ended a run that has no further state: a refusal marks the rest of the run (R268). -/
inductive RunStop where
  | fault (f : Fault)
  | refused (r : Refusal)
  deriving DecidableEq, Repr

/-- What the step-result port puts out after a step: the outcome and the cycle count (R253, R257). -/
structure StepReport where
  result : StepResult
  cycles : Nat
  deriving DecidableEq, Repr

/-- The step-result port after the step that left this state (R257). -/
def State.stepReport (s : State) : StepReport := ⟨s.result, s.cycles⟩

/-- The record of a run (R259): the last state reached, the write events, the acknowledges and the step
results with their cycle counts, each in the order they were put out, and what stopped the run, if anything
did. -/
structure RunRecord where
  final : State
  writes : List WriteEvent
  acks : List Word
  results : List StepReport
  stop : Option RunStop
  deriving DecidableEq, Repr

/-- The write events a step from `s` to `t` put out, in program order (R58). -/
def State.newEvents (s t : State) : List WriteEvent :=
  (t.trace.take (t.trace.length - s.trace.length)).reverse

/-- The outputs of the step from `s` to `t` put before the record of what follows. -/
def RunRecord.after (s t : State) (r : RunRecord) : RunRecord :=
  { r with
    writes := s.newEvents t ++ r.writes
    acks := t.ack.toList ++ r.acks
    results := t.stepReport :: r.results }

/-- The record of at most `n` steps from a state (R254, R259).  DESIGN CHOICE (log 23): the spec gives a run that
meets a refusal (R268) no final state; the record then ends in the state before the whole refused machine step,
so the host action taken at the start of that step is not in it, and `stop` marks the refusal. -/
def State.record : Nat → State → RunRecord
  | 0, s => ⟨s, [], [], [], none⟩
  | n + 1, s =>
    match step s with
    | .next t => (State.record n t).after s t
    | .fault f => ⟨s, [], [], [], some (.fault f)⟩
    | .refused r => ⟨s, [], [], [], some (.refused r)⟩

end Sys2Proof.Machine
end

