-- ==== Sys2Proof/Machine/Boot.lean ====
section
/-! DEFINITION. Power-on (70_reset_and_hazards.md R300, R301; 60_exceptions.md R265). -/

namespace Sys2Proof.Machine

/-- The state `Reset(BOOT_IMAGE, RESET_REGS, DEBUG_START)` leaves for an image that fits (R300). -/
def poweredOn (image : List Byte) (r : ResetRegs) (debugStart : Bool) (p : Params)
    (irq : Feed (Option Word)) (host : Feed HostCmd) : State :=
  { State.reset with
    regs := { b := r.b, c := r.c, d := r.d, e := r.e, h := r.h, l := r.l, a := r.a }
    flags := Flags.ofByte r.f
    sp := r.sp
    mem := Memory.ofBytes 0 image
    dbgMode := if debugStart then .paused else .freeRunning
    params := p
    irqIn := irq
    hostIn := host }

/-- Power-on.  Without an image the machine does not start (R265); an image of more than 65536 bytes is
refused (R301).  `irq` and `host` are the inputs of the run to come (R255). -/
def powerOn (image : Option (List Byte)) (r : ResetRegs) (debugStart : Bool) (p : Params)
    (irq : Feed (Option Word)) (host : Feed HostCmd) : Answer :=
  match image with
  | none => .fault .bootFileNotFound
  | some bytes =>
    if bytes.length ≤ 65536 then .next (poweredOn bytes r debugStart p irq host)
    else .refused .bootImageTooLong

end Sys2Proof.Machine
end

