-- ==== Sys2Proof/Safety.lean ====
section
/-! DEFINITION. The terms statements use: the invariant of the machine's states, the ends of a run
(R256), what a safe run is (R262), what an instruction leaves unchanged, and the forms and results that
several statements share. -/

namespace Sys2Proof.Machine

/-- Strictly ascending addresses (R25, R291). -/
def ascending : List Word → Bool
  | [] => true
  | [_] => true
  | x :: y :: ys => decide (x.toNat < y.toNat) && ascending (y :: ys)

/-- What holds of every state a run reaches: memory in canonical form, the breakpoint set ascending
without duplicates (R25), no enable both given and scheduled (R272), no scheduled enable in a machine
without the `EI` delay (R21), and none in a halted one (R248). -/
structure StateInv (s : State) : Prop where
  memCanonical : s.mem.wf = true
  breakpointsAscending : ascending s.bp = true
  oneEnable : s.ime = true → s.imeSched = false
  noDelayNoSchedule : s.params.eiDelay = 0 → s.imeSched = false
  haltedNoSchedule : s.run = .halted → s.imeSched = false

/-- The machine has met no fault (R262). -/
def State.unfaulted (s : State) : Bool :=
  match s.run with
  | .faulted _ => false
  | _ => true

/-- A run that keeps stepping without a fault or a refusal for `n` steps. -/
def safeFor : Nat → State → Bool
  | 0, s => s.unfaulted
  | n + 1, s =>
    s.unfaulted && (match step s with
      | .next t => safeFor n t
      | .fault _ => false
      | .refused _ => false)

/-- No instruction touches the debug unit, the parameters, the inputs or the step outputs (R25, R290). -/
structure EngineKept (s t : State) : Prop where
  bp : t.bp = s.bp
  dbgMode : t.dbgMode = s.dbgMode
  params : t.params = s.params
  irqIn : t.irqIn = s.irqIn
  hostIn : t.hostIn = s.hostIn
  exited : t.exited = s.exited
  ack : t.ack = s.ack
  result : t.result = s.result
  cycles : t.cycles = s.cycles

/-- The interrupt enable, its schedule and the run state are as before (R20, R21, R22). -/
structure ControlKept (s t : State) : Prop where
  ime : t.ime = s.ime
  imeSched : t.imeSched = s.imeSched
  run : t.run = s.run

/-- The bytes and events of an instruction that put out exactly the events `evs`, newest first: every
byte at another address reads as before (R44, R58). -/
structure StoresOnly (evs : List WriteEvent) (s t : State) : Prop where
  bytes : ∀ a, a ∉ evs.map (·.address) → t.readByte a = s.readByte a
  trace : t.trace = evs ++ s.trace

/-- Every general register outside the list is as before. -/
def RegsKeptExcept (rs : List Reg) (s t : State) : Prop := ∀ r, r ∉ rs → t.reg r = s.reg r

/-- The common frame of an instruction that writes the registers `rs` and stores with the events `evs`. -/
structure Frame (rs : List Reg) (evs : List WriteEvent) (s t : State) : Prop where
  regs : RegsKeptExcept rs s t
  stores : StoresOnly evs s t
  control : ControlKept s t
  engine : EngineKept s t

/-- The instruction consumed `n` bytes and `c` cycles and fell through (R246, R247). -/
structure Retired (n c : Nat) (s t : State) : Prop where
  pc : t.pc = s.pc + BitVec.ofNat 16 n
  clk : t.clk = s.clk + c

/-- The event of a byte stored at an address (R58). -/
def event (a : Word) (v : Byte) : WriteEvent := ⟨a, v, regionOf a⟩

/-- The next step fetches and executes the instruction at `PC`: the machine runs freely, has not ended,
stands on no breakpoint, and no host action is waiting (R251, R252). -/
structure Executing (s : State) : Prop where
  noHost : s.hostIn = .quiet
  notExited : s.exited = false
  free : s.dbgMode = .freeRunning
  running : s.run = .running
  noBreak : s.isBreakpoint s.pc = false

/-- The next step is an idle step of a halted machine (R249). -/
structure Idling (s : State) : Prop where
  noHost : s.hostIn = .quiet
  notExited : s.exited = false
  free : s.dbgMode = .freeRunning
  halted : s.run = .halted

/-- The general registers a pair of table `rp` is made of (R15). -/
def pairRegs : Pair → List Reg
  | .bc => [.b, .c] | .de => [.d, .e] | .hl => [.h, .l] | .sp => []

/-- The three operand forms of an accumulator operation (42_alu8.md section 2). -/
inductive Source where
  | reg (r : Reg)
  | atHl
  | imm (n : Byte)

/-- The instruction of an accumulator operation and operand form. -/
def aluInstr (op : AluOp) : Source → Instr
  | .reg r => Instr.aluRegOf op r
  | .atHl => Instr.aluAtHlOf op
  | .imm n => Instr.aluImmOf op n

/-- The operand's value. -/
def sourceByte (s : State) : Source → Byte
  | .reg r => s.reg r
  | .atHl => s.readByte (s.pair .hl)
  | .imm n => n

/-- Bytes of the three forms (R72). -/
def sourceLength : Source → Nat
  | .reg _ => 1 | .atHl => 1 | .imm _ => 2

/-- Cycles of the three forms (R80). -/
def sourceCycles : Source → Nat
  | .reg _ => 4 | .atHl => 8 | .imm _ => 8

/-- Selector value of a register (R12). -/
def regCode : Reg → Nat
  | .b => 0 | .c => 1 | .d => 2 | .e => 3 | .h => 4 | .l => 5 | .a => 7

/-- Selector value of a pair of table `rp` (R15). -/
def pairCode : Pair → Nat
  | .bc => 0 | .de => 1 | .hl => 2 | .sp => 3

/-- Field value of a condition (R87). -/
def condCode : Cond → Nat
  | .nz => 0 | .z => 1 | .nc => 2 | .c => 3

/-- Field value of an accumulator operation (R87). -/
def aluCode : AluOp → Nat
  | .add => 0 | .adc => 1 | .sub => 2 | .sbc => 3 | .and => 4 | .xor => 5 | .or => 6 | .cp => 7

/-- Field value of a rotate or shift (R189). -/
def rotCode : RotOp → Nat
  | .rlc => 0 | .rrc => 1 | .rl => 2 | .rr => 3 | .sla => 4 | .sra => 5 | .swap => 6 | .srl => 7

/-- An opcode byte given as a number (R73). -/
def opcode (n : Nat) : Byte := BitVec.ofNat 8 n

/-- The bytes of an accumulator operation in its three forms (42_alu8.md section 2). -/
def sourceBytes (op : AluOp) : Source → List Byte
  | .reg r => [opcode (0x80 + 8 * aluCode op + regCode r)]
  | .atHl => [opcode (0x86 + 8 * aluCode op)]
  | .imm n => [opcode (0xC6 + 8 * aluCode op), n]

/-- Bit `k` of the result of a rotate or shift (R189), bit by bit. -/
def shiftedBit (op : RotOp) (v : Byte) (cin : Bool) (k : Nat) : Bool :=
  match op with
  | .rlc => v.getLsbD ((k + 7) % 8)
  | .rrc => v.getLsbD ((k + 1) % 8)
  | .rl => if k = 0 then cin else v.getLsbD (k - 1)
  | .rr => if k = 7 then cin else v.getLsbD (k + 1)
  | .sla => if k = 0 then false else v.getLsbD (k - 1)
  | .sra => v.getLsbD (min 7 (k + 1))
  | .swap => v.getLsbD ((k + 4) % 8)
  | .srl => if k = 7 then false else v.getLsbD (k + 1)

/-- The bit shifted out (R189). -/
def shiftedOut (op : RotOp) (v : Byte) : Bool :=
  match op with
  | .rlc | .rl | .sla => v.getLsbD 7
  | .rrc | .rr | .sra | .srl => v.getLsbD 0
  | .swap => false

/-- R220: what each condition tests. -/
def condHolds (s : State) : Cond → Prop
  | .nz => s.flags.z = false
  | .z => s.flags.z = true
  | .nc => s.flags.c = false
  | .c => s.flags.c = true

/-- A state after a call: the return address `ra` is on the stack and control is at `target`. -/
def Called (ra target : Word) (s t : State) : Prop :=
  t.pc = target ∧ t.sp = s.sp - 2 ∧ t.readByte (s.sp - 1) = hiByte ra ∧ t.readByte (s.sp - 2) = loByte ra ∧
  Frame [] [event (s.sp - 2) (loByte ra), event (s.sp - 1) (hiByte ra)] s t ∧ t.flags = s.flags

/-- A state after a return: control at the popped address, `SP` raised by 2, no memory written. -/
def Returned (s t : State) : Prop :=
  t.pc = joinBytes (s.readByte (s.sp + 1)) (s.readByte s.sp) ∧ t.sp = s.sp + 2 ∧
  RegsKeptExcept [] s t ∧ StoresOnly [] s t ∧ EngineKept s t ∧ t.flags = s.flags ∧ t.run = s.run

end Sys2Proof.Machine
end

