-- ==== Sys2Proof/Certificates/Slice0/Obligations.lean ====
section
/-! DEFINITION. The statements for the provers.  Each formalises the rules its docstring names. -/

open Sys2Proof Sys2Proof.Machine

/-! ## Decoder and encoder -/

/-- 30_encoding.md: decoding the bytes of an instruction of the table gives it back, whatever follows it. -/
def Obligations.DecodeOfEncode : Prop :=
  ∀ (i : Instr) (rest : List Byte), i.wf = true → decode (encode i ++ rest) = .ok (i, rest)

/-- 30_encoding.md: whatever three bytes are decoded, the result is an instruction of the table and its
encoding is the bytes it was decoded from, so each byte sequence has one meaning. -/
def Obligations.EncodeOfDecode : Prop :=
  ∀ b0 b1 b2 : Byte, (decodeBytes b0 b1 b2).wf = true ∧
    encode (decodeBytes b0 b1 b2) = [b0, b1, b2].take (decodeBytes b0 b1 b2).length

/-- R86, R78: a few words written out from the opcode grid and the extended table. -/
def Obligations.SpecWordsDecode : Prop :=
  decodeBytes 0x78 0 0 = .ldAB ∧ decodeBytes 0x21 0x34 0x12 = .ldHlD16 0x1234 ∧
  decodeBytes 0xC6 0x80 0 = .addAD8 0x80 ∧ decodeBytes 0x39 0 0 = .addHlSp ∧
  decodeBytes 0xCB 0x37 0 = .swapA ∧ decodeBytes 0xCB 0x7C 0 = .bit7H ∧ decodeBytes 0xCB 0x86 0 = .res0AtHl ∧
  decodeBytes 0xD4 0x34 0x12 = .callNcA16 0x1234 ∧ decodeBytes 0x76 0 0 = .halt ∧
  decodeBytes 0x10 0xFF 0 = .stop 0xFF ∧ decodeBytes 0xD3 0 0 = .illegal 0xD3

/-- R72: the length comes from the first byte alone, by the operand-fetch rule. -/
def Obligations.LengthFromFirstByte : Prop :=
  ∀ b0 b1 b2 : Byte,
    (∀ c1 c2 : Byte, (decodeBytes b0 c1 c2).length = (decodeBytes b0 b1 b2).length) ∧
    match (decodeBytes b0 b1 b2).desc with
    | some d => d.length =
        if b0 = 0xCB then 2
        else if d.operand = .imm8 then 2
        else if d.operand = .imm16 then 3
        else 1
    | none => (decodeBytes b0 b1 b2).length = 1

/-- R76, R264: exactly the eleven bytes have no descriptor, and a step on one of them ends in the fault
with the byte and its address; the instruction changes only `run`, the step only `run`, the consumed `IRQ`
sample and the step outputs. -/
def Obligations.UndefinedByteFaults : Prop :=
  (∀ b0 b1 b2 : Byte, (decodeBytes b0 b1 b2).desc = none ↔
    b0 ∈ ([0xD3, 0xDB, 0xDD, 0xE3, 0xE4, 0xEB, 0xEC, 0xED, 0xF4, 0xFC, 0xFD] : List Byte)) ∧
  (∀ (b : Byte) (s : State), exec (.illegal b) s = .next { s with run := .faulted (.unimplementedOpcode b s.pc) }) ∧
  ∀ s : State, Executing s → (decodeAt s.mem s.pc).desc = none →
    step s = .next { s with
      run := .faulted (.unimplementedOpcode (s.readByte s.pc) s.pc)
      irqIn := s.irqIn.tail
      ack := none
      result := .fault (.unimplementedOpcode (s.readByte s.pc) s.pc)
      cycles := 0 }

/-- R82, R83: the disassembler's entry at an address has the mnemonic and length of the instruction
executed there and the raw bytes after the first; an undefined byte gives `ILLEGAL` of length 1.  R294: a
listing of one entry is that entry, a listing has exactly `count` entries, and a longer listing is a shorter
one followed by the listing from where the cursor then stands. -/
def Obligations.DisassemblerAgrees : Prop :=
  (∀ (s : State) (a : Word),
    match (decodeAt s.mem a).desc with
    | some d => (disasm s.mem a).address = a ∧ (disasm s.mem a).mnemonic = d.mnemonic ∧
        (disasm s.mem a).length = d.length ∧
        (disasm s.mem a).operands.length + 1 = d.length ∧
        ∀ k, k + 1 < d.length → (disasm s.mem a).operands[k]? = some (s.readByte (a + BitVec.ofNat 16 (k + 1)))
    | none => disasm s.mem a = ⟨a, "ILLEGAL", [], 1⟩) ∧
  (∀ s : State, s.listing = disassemble s.mem s.pc Config.disasmCount) ∧
  (∀ (m : Memory) (a : Word), disassemble m a 1 = [disasm m a]) ∧
  ∀ (m : Memory) (a : Word) (n k : Nat), (disassemble m a n).length = n ∧
    disassemble m a (n + k) =
      disassemble m a n ++ disassemble m (a + BitVec.ofNat 16 ((disassemble m a n).map (·.length)).sum) k

/-! ## Memory, registers, stack -/

/-- R44: a byte write stores the byte, puts out one event with its region, and does nothing else. -/
def Obligations.WriteDoesTwoThings : Prop :=
  ∀ (s : State) (a : Word) (v : Byte),
    (∀ b, (s.writeByte a v).readByte b = if b = a then v else s.readByte b) ∧
    (s.writeByte a v).trace = ⟨a, v, regionOf a⟩ :: s.trace ∧
    { s.writeByte a v with mem := s.mem, trace := s.trace } = s

/-- R41, R42: the region table has thirteen rows; every address lies in exactly one of them, which is the one of
the rows of R41 written out here whose bounds hold it, and has that row's region. -/
def Obligations.OneRegionPerAddress : Prop :=
  regionTable.length = 13 ∧
  ∀ a : Word, ∃ r ∈ ([⟨0x0000, 0x3FFF, .rom0⟩, ⟨0x4000, 0x7FFF, .romx⟩, ⟨0x8000, 0x97FF, .vramChr⟩,
      ⟨0x9800, 0x9BFF, .bgmap1⟩, ⟨0x9C00, 0x9FFF, .bgmap2⟩, ⟨0xA000, 0xBFFF, .extram⟩,
      ⟨0xC000, 0xDFFF, .wram⟩, ⟨0xE000, 0xFDFF, .echo⟩, ⟨0xFE00, 0xFE9F, .oam⟩,
      ⟨0xFEA0, 0xFEFF, .unusable⟩, ⟨0xFF00, 0xFF7F, .io⟩, ⟨0xFF80, 0xFFFE, .hram⟩,
      ⟨0xFFFF, 0xFFFF, .io⟩] : List RegionRow),
    r.first ≤ a.toNat ∧ a.toNat ≤ r.last ∧
    regionTable.filter (fun q => decide (q.first ≤ a.toNat ∧ a.toNat ≤ q.last)) = [r] ∧
    regionOf a = r.region

/-- R13: a pair written and read back gives the value, it reflects 8-bit writes to either half, and
writing it leaves the other registers alone. -/
def Obligations.PairsAreViews : Prop :=
  ∀ (s : State) (v : Word) (x : Byte),
    (∀ p, (s.setPair p v).pair p = v) ∧
    (s.setReg .b x).pair .bc = joinBytes x (s.reg .c) ∧ (s.setReg .c x).pair .bc = joinBytes (s.reg .b) x ∧
    (s.setReg .d x).pair .de = joinBytes x (s.reg .e) ∧ (s.setReg .e x).pair .de = joinBytes (s.reg .d) x ∧
    (s.setReg .h x).pair .hl = joinBytes x (s.reg .l) ∧ (s.setReg .l x).pair .hl = joinBytes (s.reg .h) x ∧
    RegsKeptExcept [.b, .c] s (s.setPair .bc v) ∧ RegsKeptExcept [.d, .e] s (s.setPair .de v) ∧
    RegsKeptExcept [.h, .l] s (s.setPair .hl v)

/-- R16: `F` has Z, N, H, C in bits 7 to 4; bits 3 to 0 read 0, and a byte written to `F` keeps only its
high nibble. -/
def Obligations.FlagByteLayout : Prop :=
  (∀ f : Flags, f.toByte.getLsbD 7 = f.z ∧ f.toByte.getLsbD 6 = f.n ∧ f.toByte.getLsbD 5 = f.h ∧
    f.toByte.getLsbD 4 = f.c ∧ f.toByte &&& 0x0F = 0) ∧
  (∀ v : Byte, (Flags.ofByte v).toByte = v &&& 0xF0) ∧
  ∀ (s : State) (v : Word), (s.setAf v).reg .a = hiByte v ∧ (s.setAf v).flags.toByte = loByte v &&& 0xF0

/-- R130, R131: a push lowers `SP` by 2 and writes high byte first at the higher address; a pop reads the low
byte at `SP` and the high byte above it and raises `SP` by 2; after a push it gives the value and `SP` back. -/
def Obligations.PushThenPop : Prop :=
  ∀ (s : State) (v : Word),
    (s.push16 v).sp = s.sp - 2 ∧ (s.push16 v).readByte (s.sp - 1) = hiByte v ∧
    (s.push16 v).readByte (s.sp - 2) = loByte v ∧
    StoresOnly [event (s.sp - 2) (loByte v), event (s.sp - 1) (hiByte v)] s (s.push16 v) ∧
    s.popValue = joinBytes (s.readByte (s.sp + 1)) (s.readByte s.sp) ∧ s.popped = { s with sp := s.sp + 2 } ∧
    (s.push16 v).popValue = v ∧ (s.push16 v).popped.sp = s.sp ∧ (s.push16 v).popped.mem = (s.push16 v).mem

/-! ## 8-bit loads -/

/-- R101, R102, R103: loads of a register from a register, an immediate and `(HL)`. -/
def Obligations.LoadsOfRegisters : Prop :=
  ∀ (r q : Reg) (n : Byte) (s : State),
    encode (Instr.ldRegRegOf r q) = [opcode (0x40 + 8 * regCode r + regCode q)] ∧
    encode (Instr.ldRegImmOf r n) = [opcode (0x06 + 8 * regCode r), n] ∧
    encode (Instr.ldRegAtHlOf r) = [opcode (0x46 + 8 * regCode r)] ∧
    (∃ t, exec (Instr.ldRegRegOf r q) s = .next t ∧ t.reg r = s.reg q ∧
      Retired 1 4 s t ∧ Frame [r] [] s t ∧ t.flags = s.flags ∧ t.sp = s.sp) ∧
    (∃ t, exec (Instr.ldRegImmOf r n) s = .next t ∧ t.reg r = n ∧
      Retired 2 8 s t ∧ Frame [r] [] s t ∧ t.flags = s.flags ∧ t.sp = s.sp) ∧
    (∃ t, exec (Instr.ldRegAtHlOf r) s = .next t ∧ t.reg r = s.readByte (s.pair .hl) ∧
      Retired 1 8 s t ∧ Frame [r] [] s t ∧ t.flags = s.flags ∧ t.sp = s.sp)

/-- R104, R105: stores at `HL` of a register and of an immediate. -/
def Obligations.StoresAtHl : Prop :=
  ∀ (q : Reg) (n : Byte) (s : State),
    encode (Instr.ldAtHlRegOf q) = [opcode (0x70 + regCode q)] ∧
    encode (Instr.ldAtHlImmOf n) = [0x36, n] ∧
    (∃ t, exec (Instr.ldAtHlRegOf q) s = .next t ∧ t.readByte (s.pair .hl) = s.reg q ∧
      Retired 1 8 s t ∧ Frame [] [event (s.pair .hl) (s.reg q)] s t ∧ t.flags = s.flags ∧ t.sp = s.sp) ∧
    (∃ t, exec (Instr.ldAtHlImmOf n) s = .next t ∧ t.readByte (s.pair .hl) = n ∧
      Retired 2 12 s t ∧ Frame [] [event (s.pair .hl) n] s t ∧ t.flags = s.flags ∧ t.sp = s.sp)

/-- R106, R107, R110, R112, R114: loads of A from `(BC)`, `(DE)`, `(a16)`, the high page and `(C)`. -/
def Obligations.LoadsOfAccumulator : Prop :=
  ∀ (w : Word) (n : Byte) (s : State),
    encode .ldAAtBc = [0x0A] ∧ encode .ldAAtDe = [0x1A] ∧ encode (.ldAAtA16 w) = [0xFA, loByte w, hiByte w] ∧
    encode (.ldhAAtA8 n) = [0xF0, n] ∧ encode .ldAAtC = [0xF2] ∧
    (∃ t, exec .ldAAtBc s = .next t ∧ t.reg .a = s.readByte (s.pair .bc) ∧
      Retired 1 8 s t ∧ Frame [.a] [] s t ∧ t.flags = s.flags ∧ t.sp = s.sp) ∧
    (∃ t, exec .ldAAtDe s = .next t ∧ t.reg .a = s.readByte (s.pair .de) ∧
      Retired 1 8 s t ∧ Frame [.a] [] s t ∧ t.flags = s.flags ∧ t.sp = s.sp) ∧
    (∃ t, exec (.ldAAtA16 w) s = .next t ∧ t.reg .a = s.readByte w ∧
      Retired 3 16 s t ∧ Frame [.a] [] s t ∧ t.flags = s.flags ∧ t.sp = s.sp) ∧
    (∃ t, exec (.ldhAAtA8 n) s = .next t ∧ t.reg .a = s.readByte (0xFF00 + n.setWidth 16) ∧
      Retired 2 12 s t ∧ Frame [.a] [] s t ∧ t.flags = s.flags ∧ t.sp = s.sp) ∧
    (∃ t, exec .ldAAtC s = .next t ∧ t.reg .a = s.readByte (0xFF00 + (s.reg .c).setWidth 16) ∧
      Retired 1 8 s t ∧ Frame [.a] [] s t ∧ t.flags = s.flags ∧ t.sp = s.sp)

/-- R108, R109, R111, R113, R115: stores of A at `(BC)`, `(DE)`, `(a16)`, the high page and `(C)`. -/
def Obligations.StoresOfAccumulator : Prop :=
  ∀ (w : Word) (n : Byte) (s : State),
    encode .ldAtBcA = [0x02] ∧ encode .ldAtDeA = [0x12] ∧ encode (.ldAtA16A w) = [0xEA, loByte w, hiByte w] ∧
    encode (.ldhAtA8A n) = [0xE0, n] ∧ encode .ldAtCA = [0xE2] ∧
    (∃ t, exec .ldAtBcA s = .next t ∧ t.readByte (s.pair .bc) = s.reg .a ∧
      Retired 1 8 s t ∧ Frame [] [event (s.pair .bc) (s.reg .a)] s t ∧ t.flags = s.flags ∧ t.sp = s.sp) ∧
    (∃ t, exec .ldAtDeA s = .next t ∧ t.readByte (s.pair .de) = s.reg .a ∧
      Retired 1 8 s t ∧ Frame [] [event (s.pair .de) (s.reg .a)] s t ∧ t.flags = s.flags ∧ t.sp = s.sp) ∧
    (∃ t, exec (.ldAtA16A w) s = .next t ∧ t.readByte w = s.reg .a ∧
      Retired 3 16 s t ∧ Frame [] [event w (s.reg .a)] s t ∧ t.flags = s.flags ∧ t.sp = s.sp) ∧
    (∃ t, exec (.ldhAtA8A n) s = .next t ∧ t.readByte (0xFF00 + n.setWidth 16) = s.reg .a ∧
      Retired 2 12 s t ∧ Frame [] [event (0xFF00 + n.setWidth 16) (s.reg .a)] s t ∧ t.flags = s.flags ∧ t.sp = s.sp) ∧
    (∃ t, exec .ldAtCA s = .next t ∧ t.readByte (0xFF00 + (s.reg .c).setWidth 16) = s.reg .a ∧
      Retired 1 8 s t ∧ Frame [] [event (0xFF00 + (s.reg .c).setWidth 16) (s.reg .a)] s t ∧
      t.flags = s.flags ∧ t.sp = s.sp)

/-- R116 to R119: the access uses `HL` before it is stepped, modulo 2^16; no flag is touched. -/
def Obligations.PostModifyingAccesses : Prop :=
  ∀ s : State,
    encode .ldAtHlIncA = [0x22] ∧ encode .ldAAtHlInc = [0x2A] ∧ encode .ldAtHlDecA = [0x32] ∧ encode .ldAAtHlDec = [0x3A] ∧
    (∃ t, exec .ldAtHlIncA s = .next t ∧ t.readByte (s.pair .hl) = s.reg .a ∧ t.pair .hl = s.pair .hl + 1 ∧
      Retired 1 8 s t ∧ Frame [.h, .l] [event (s.pair .hl) (s.reg .a)] s t ∧ t.flags = s.flags ∧ t.sp = s.sp) ∧
    (∃ t, exec .ldAAtHlInc s = .next t ∧ t.reg .a = s.readByte (s.pair .hl) ∧ t.pair .hl = s.pair .hl + 1 ∧
      Retired 1 8 s t ∧ Frame [.a, .h, .l] [] s t ∧ t.flags = s.flags ∧ t.sp = s.sp) ∧
    (∃ t, exec .ldAtHlDecA s = .next t ∧ t.readByte (s.pair .hl) = s.reg .a ∧ t.pair .hl = s.pair .hl - 1 ∧
      Retired 1 8 s t ∧ Frame [.h, .l] [event (s.pair .hl) (s.reg .a)] s t ∧ t.flags = s.flags ∧ t.sp = s.sp) ∧
    (∃ t, exec .ldAAtHlDec s = .next t ∧ t.reg .a = s.readByte (s.pair .hl) ∧ t.pair .hl = s.pair .hl - 1 ∧
      Retired 1 8 s t ∧ Frame [.a, .h, .l] [] s t ∧ t.flags = s.flags ∧ t.sp = s.sp)

/-! ## 16-bit loads and the stack -/

/-- R132, R134: `LD rr,d16` and `LD SP,HL`. -/
def Obligations.PairLoads : Prop :=
  ∀ (p : Pair) (w : Word) (s : State),
    encode (Instr.ldPairImmOf p w) = [opcode (0x01 + 16 * pairCode p), loByte w, hiByte w] ∧ encode .ldSpHl = [0xF9] ∧
    (∃ t, exec (Instr.ldPairImmOf p w) s = .next t ∧ t.pair p = w ∧ Retired 3 12 s t ∧
      Frame (pairRegs p) [] s t ∧ t.flags = s.flags ∧ (p ≠ .sp → t.sp = s.sp)) ∧
    (∃ t, exec .ldSpHl s = .next t ∧ t.sp = s.pair .hl ∧ Retired 1 8 s t ∧ Frame [] [] s t ∧ t.flags = s.flags)

/-- R133: `LD (a16),SP` stores the low byte at `a16` first, then the high byte at `a16+1` modulo 2^16. -/
def Obligations.StoreOfStackPointer : Prop :=
  ∀ (w : Word) (s : State),
    encode (.ldAtA16Sp w) = [0x08, loByte w, hiByte w] ∧
    ∃ t, exec (.ldAtA16Sp w) s = .next t ∧ t.readByte w = loByte s.sp ∧ t.readByte (w + 1) = hiByte s.sp ∧
      Retired 3 20 s t ∧ Frame [] [event (w + 1) (hiByte s.sp), event w (loByte s.sp)] s t ∧
      t.flags = s.flags ∧ t.sp = s.sp

/-- R135, R188: `SP` plus a signed displacement into `HL` or `SP`; Z and N cleared, H and C the carries out
of bits 3 and 7 of the unsigned addition of the low bytes. -/
def Obligations.StackPointerOffset : Prop :=
  ∀ (e : Byte) (s : State),
    encode (.ldHlSpR8 e) = [0xF8, e] ∧ encode (.addSpR8 e) = [0xE8, e] ∧
    (∃ t, exec (.ldHlSpR8 e) s = .next t ∧ ((t.pair .hl).toNat : Int) = ((s.sp.toNat : Int) + e.toInt) % 65536 ∧
      t.flags = ⟨false, false, decide (s.sp.toNat % 16 + e.toNat % 16 > 15),
        decide (s.sp.toNat % 256 + e.toNat > 255)⟩ ∧
      Retired 2 12 s t ∧ Frame [.h, .l] [] s t ∧ t.sp = s.sp) ∧
    (∃ t, exec (.addSpR8 e) s = .next t ∧ (t.sp.toNat : Int) = ((s.sp.toNat : Int) + e.toInt) % 65536 ∧
      t.flags = ⟨false, false, decide (s.sp.toNat % 16 + e.toNat % 16 > 15),
        decide (s.sp.toNat % 256 + e.toNat > 255)⟩ ∧
      Retired 2 16 s t ∧ Frame [] [] s t)

/-- R136 to R139: `PUSH` writes the pair, or A and F, below `SP`, high byte at the higher address first; `POP`
reads low byte at `SP` and high byte at `SP+1`; `POP AF` writes all four flags from the high nibble of the
low byte. -/
def Obligations.PushesAndPops : Prop :=
  ∀ (p : StackPair) (s : State),
    encode (Instr.pushPairOf p) = [opcode (0xC5 + 16 * pairCode (pairOf p))] ∧ encode .pushAf = [0xF5] ∧
    encode (Instr.popPairOf p) = [opcode (0xC1 + 16 * pairCode (pairOf p))] ∧ encode .popAf = [0xF1] ∧
    (∃ t, exec (Instr.pushPairOf p) s = .next t ∧ t.sp = s.sp - 2 ∧
      t.readByte (s.sp - 1) = hiByte (s.pair (pairOf p)) ∧ t.readByte (s.sp - 2) = loByte (s.pair (pairOf p)) ∧
      Retired 1 16 s t ∧ t.flags = s.flags ∧
      Frame [] [event (s.sp - 2) (loByte (s.pair (pairOf p))), event (s.sp - 1) (hiByte (s.pair (pairOf p)))] s t) ∧
    (∃ t, exec .pushAf s = .next t ∧ t.sp = s.sp - 2 ∧
      t.readByte (s.sp - 1) = s.reg .a ∧ t.readByte (s.sp - 2) = s.flags.toByte ∧
      Retired 1 16 s t ∧ t.flags = s.flags ∧
      Frame [] [event (s.sp - 2) s.flags.toByte, event (s.sp - 1) (s.reg .a)] s t) ∧
    (∃ t, exec (Instr.popPairOf p) s = .next t ∧
      t.pair (pairOf p) = joinBytes (s.readByte (s.sp + 1)) (s.readByte s.sp) ∧
      t.sp = s.sp + 2 ∧ Retired 1 12 s t ∧ Frame (pairRegs (pairOf p)) [] s t ∧ t.flags = s.flags) ∧
    (∃ t, exec .popAf s = .next t ∧ t.reg .a = s.readByte (s.sp + 1) ∧ t.flags.toByte = s.readByte s.sp &&& 0xF0 ∧
      t.sp = s.sp + 2 ∧ Retired 1 12 s t ∧ Frame [.a] [] s t)

/-! ## 8-bit arithmetic and logic -/

/-- R150 to R155: `ADD` and `ADC` in every operand form. -/
def Obligations.Additions : Prop :=
  ∀ (withCarry : Bool) (x : Source) (s : State),
    let cin := (withCarry && s.flags.c).toNat
    let a := (s.reg .a).toNat
    let v := (sourceByte s x).toNat
    encode (aluInstr (if withCarry then .adc else .add) x) = sourceBytes (if withCarry then .adc else .add) x ∧
    ∃ t, exec (aluInstr (if withCarry then .adc else .add) x) s = .next t ∧
      (t.reg .a).toNat = (a + v + cin) % 256 ∧
      t.flags = ⟨decide ((a + v + cin) % 256 = 0), false, decide (a % 16 + v % 16 + cin > 15),
        decide (a + v + cin > 255)⟩ ∧
      Retired (sourceLength x) (sourceCycles x) s t ∧ Frame [.a] [] s t ∧ t.sp = s.sp

/-- R156 to R161: `SUB` and `SBC` in every operand form; H and C are borrows. -/
def Obligations.Subtractions : Prop :=
  ∀ (withCarry : Bool) (x : Source) (s : State),
    let cin := (withCarry && s.flags.c).toNat
    let a := (s.reg .a).toNat
    let v := (sourceByte s x).toNat
    encode (aluInstr (if withCarry then .sbc else .sub) x) = sourceBytes (if withCarry then .sbc else .sub) x ∧
    ∃ t, exec (aluInstr (if withCarry then .sbc else .sub) x) s = .next t ∧
      (t.reg .a).toNat = (a + 512 - v - cin) % 256 ∧
      t.flags = ⟨decide ((a + 512 - v - cin) % 256 = 0), true, decide (a % 16 < v % 16 + cin), decide (a < v + cin)⟩ ∧
      Retired (sourceLength x) (sourceCycles x) s t ∧ Frame [.a] [] s t ∧ t.sp = s.sp

/-- R171 to R173: `CP` sets the flags of the subtraction, Z for equal and C for below, and writes no register. -/
def Obligations.Compares : Prop :=
  ∀ (x : Source) (s : State),
    let a := (s.reg .a).toNat
    let v := (sourceByte s x).toNat
    encode (aluInstr .cp x) = sourceBytes .cp x ∧
    ∃ t, exec (aluInstr .cp x) s = .next t ∧
      t.flags = ⟨decide (a = v), true, decide (a % 16 < v % 16), decide (a < v)⟩ ∧
      Retired (sourceLength x) (sourceCycles x) s t ∧ Frame [] [] s t ∧ t.sp = s.sp

/-- R162 to R170: `AND`, `XOR`, `OR` in every operand form; `AND` sets H. -/
def Obligations.LogicOperations : Prop :=
  ∀ (x : Source) (s : State),
    let a := s.reg .a
    let v := sourceByte s x
    (∀ op, encode (aluInstr op x) = sourceBytes op x) ∧
    (∃ t, exec (aluInstr .and x) s = .next t ∧ t.reg .a = a &&& v ∧
      t.flags = ⟨decide (a &&& v = 0), false, true, false⟩ ∧
      Retired (sourceLength x) (sourceCycles x) s t ∧ Frame [.a] [] s t ∧ t.sp = s.sp) ∧
    (∃ t, exec (aluInstr .xor x) s = .next t ∧ t.reg .a = a ^^^ v ∧
      t.flags = ⟨decide (a ^^^ v = 0), false, false, false⟩ ∧
      Retired (sourceLength x) (sourceCycles x) s t ∧ Frame [.a] [] s t ∧ t.sp = s.sp) ∧
    (∃ t, exec (aluInstr .or x) s = .next t ∧ t.reg .a = a ||| v ∧
      t.flags = ⟨decide (a ||| v = 0), false, false, false⟩ ∧
      Retired (sourceLength x) (sourceCycles x) s t ∧ Frame [.a] [] s t ∧ t.sp = s.sp)

/-- R174 to R177: `INC` and `DEC` of a register and of `(HL)` wrap modulo 2^8, leave C alone, and set H
exactly when the old low nibble was 0xF, or 0x0. -/
def Obligations.IncrementsAndDecrements : Prop :=
  ∀ (r : Reg) (s : State),
    let v := s.reg r
    let m := s.readByte (s.pair .hl)
    encode (Instr.incRegOf r) = [opcode (0x04 + 8 * regCode r)] ∧ encode .incAtHl = [0x34] ∧
    encode (Instr.decRegOf r) = [opcode (0x05 + 8 * regCode r)] ∧ encode .decAtHl = [0x35] ∧
    (∃ t, exec (Instr.incRegOf r) s = .next t ∧ t.reg r = v + 1 ∧
      t.flags = ⟨decide (v = 0xFF), false, decide (v.toNat % 16 = 15), s.flags.c⟩ ∧
      Retired 1 4 s t ∧ Frame [r] [] s t ∧ t.sp = s.sp) ∧
    (∃ t, exec (Instr.decRegOf r) s = .next t ∧ t.reg r = v - 1 ∧
      t.flags = ⟨decide (v = 1), true, decide (v.toNat % 16 = 0), s.flags.c⟩ ∧
      Retired 1 4 s t ∧ Frame [r] [] s t ∧ t.sp = s.sp) ∧
    (∃ t, exec .incAtHl s = .next t ∧ t.readByte (s.pair .hl) = m + 1 ∧
      t.flags = ⟨decide (m = 0xFF), false, decide (m.toNat % 16 = 15), s.flags.c⟩ ∧
      Retired 1 12 s t ∧ Frame [] [event (s.pair .hl) (m + 1)] s t ∧ t.sp = s.sp) ∧
    (∃ t, exec .decAtHl s = .next t ∧ t.readByte (s.pair .hl) = m - 1 ∧
      t.flags = ⟨decide (m = 1), true, decide (m.toNat % 16 = 0), s.flags.c⟩ ∧
      Retired 1 12 s t ∧ Frame [] [event (s.pair .hl) (m - 1)] s t ∧ t.sp = s.sp)

/-- R178: the adjustment `DAA` makes, for every A and every flag combination. -/
def Obligations.DecimalAdjust : Prop :=
  ∀ s : State,
    let a := (s.reg .a).toNat
    let low := if s.flags.h = true ∨ (s.flags.n = false ∧ a % 16 > 9) then 6 else 0
    let high := if s.flags.c = true ∨ (s.flags.n = false ∧ a > 0x99) then 0x60 else 0
    let res := if s.flags.n then (a + 256 - (low + high)) % 256 else (a + low + high) % 256
    encode .daa = [0x27] ∧
    ∃ t, exec .daa s = .next t ∧ (t.reg .a).toNat = res ∧
      t.flags = ⟨decide (res = 0), s.flags.n, false, s.flags.c || (!s.flags.n && decide (a > 0x99))⟩ ∧
      Retired 1 4 s t ∧ Frame [.a] [] s t ∧ t.sp = s.sp

/-- R178, R315: after the addition (`ADD A,d8`) or subtraction (`SUB d8`) of two packed-decimal bytes, `DAA`
leaves the packed-decimal sum or difference modulo 100, with C the decimal carry or borrow. -/
def Obligations.DaaIsDecimal : Prop :=
  ∀ (s : State) (x1 x0 y1 y0 : Nat), x1 < 10 → x0 < 10 → y1 < 10 → y0 < 10 →
    s.reg .a = BitVec.ofNat 8 (16 * x1 + x0) →
    (∃ t u, exec (.addAD8 (BitVec.ofNat 8 (16 * y1 + y0))) s = .next t ∧ exec .daa t = .next u ∧
      (let d := (10 * x1 + x0 + 10 * y1 + y0) % 100
       (u.reg .a).toNat = 16 * (d / 10) + d % 10 ∧ u.flags.c = decide (10 * x1 + x0 + 10 * y1 + y0 ≥ 100))) ∧
    (∃ t u, exec (.subD8 (BitVec.ofNat 8 (16 * y1 + y0))) s = .next t ∧ exec .daa t = .next u ∧
      (let d := (100 + 10 * x1 + x0 - (10 * y1 + y0)) % 100
       (u.reg .a).toNat = 16 * (d / 10) + d % 10 ∧ u.flags.c = decide (10 * x1 + x0 < 10 * y1 + y0)))

/-- R179, R180, R181: `CPL`, `SCF`, `CCF`. -/
def Obligations.AccumulatorAndCarryComplements : Prop :=
  ∀ s : State,
    encode .cpl = [0x2F] ∧ encode .scf = [0x37] ∧ encode .ccf = [0x3F] ∧
    (∃ t, exec .cpl s = .next t ∧ t.reg .a = ~~~(s.reg .a) ∧ t.flags = ⟨s.flags.z, true, true, s.flags.c⟩ ∧
      Retired 1 4 s t ∧ Frame [.a] [] s t ∧ t.sp = s.sp) ∧
    (∃ t, exec .scf s = .next t ∧ t.flags = ⟨s.flags.z, false, false, true⟩ ∧
      Retired 1 4 s t ∧ Frame [] [] s t ∧ t.sp = s.sp) ∧
    (∃ t, exec .ccf s = .next t ∧ t.flags = ⟨s.flags.z, false, false, !s.flags.c⟩ ∧
      Retired 1 4 s t ∧ Frame [] [] s t ∧ t.sp = s.sp)

/-! ## 16-bit arithmetic -/

/-- R185: `ADD HL,rr`; Z unchanged, H out of bit 11, C out of bit 15. -/
def Obligations.AddToHl : Prop :=
  ∀ (p : Pair) (s : State),
    let a := (s.pair .hl).toNat
    let b := (s.pair p).toNat
    encode (Instr.addHlPairOf p) = [opcode (0x09 + 16 * pairCode p)] ∧
    ∃ t, exec (Instr.addHlPairOf p) s = .next t ∧ (t.pair .hl).toNat = (a + b) % 65536 ∧
      t.flags = ⟨s.flags.z, false, decide (a % 4096 + b % 4096 > 4095), decide (a + b > 65535)⟩ ∧
      Retired 1 8 s t ∧ Frame [.h, .l] [] s t ∧ t.sp = s.sp

/-- R186, R187: `INC rr` and `DEC rr` wrap modulo 2^16 and touch no flag. -/
def Obligations.PairIncrementsAndDecrements : Prop :=
  ∀ (p : Pair) (s : State),
    encode (Instr.incPairOf p) = [opcode (0x03 + 16 * pairCode p)] ∧
    encode (Instr.decPairOf p) = [opcode (0x0B + 16 * pairCode p)] ∧
    (∃ t, exec (Instr.incPairOf p) s = .next t ∧ (t.pair p).toNat = ((s.pair p).toNat + 1) % 65536 ∧
      t.flags = s.flags ∧
      Retired 1 8 s t ∧ Frame (pairRegs p) [] s t ∧ (p ≠ .sp → t.sp = s.sp)) ∧
    (∃ t, exec (Instr.decPairOf p) s = .next t ∧ (t.pair p).toNat = ((s.pair p).toNat + 65535) % 65536 ∧
      t.flags = s.flags ∧
      Retired 1 8 s t ∧ Frame (pairRegs p) [] s t ∧ (p ≠ .sp → t.sp = s.sp))

/-! ## Rotates, shifts, bits -/

/-- R190 to R193: the accumulator rotates clear Z, N and H whatever the result. -/
def Obligations.AccumulatorRotates : Prop :=
  encode .rlca = [0x07] ∧ encode .rrca = [0x0F] ∧ encode .rla = [0x17] ∧ encode .rra = [0x1F] ∧
  ∀ s : State, ∀ p ∈ [(Instr.rlca, RotOp.rlc), (.rrca, .rrc), (.rla, .rl), (.rra, .rr)],
    ∃ t, exec p.1 s = .next t ∧
      (∀ k, k < 8 → (t.reg .a).getLsbD k = shiftedBit p.2 (s.reg .a) s.flags.c k) ∧
      t.flags = ⟨false, false, false, shiftedOut p.2 (s.reg .a)⟩ ∧
      Retired 1 4 s t ∧ Frame [.a] [] s t ∧ t.sp = s.sp

/-- The eight rotates and shifts of a register (R194, R196, R198, R200, R202, R204, R206, R208): Z from the
result, N and H cleared, C the bit shifted out (0 for `SWAP`). -/
def Obligations.RotatesOfRegisters : Prop :=
  ∀ (op : RotOp) (r : Reg) (s : State),
    encode (Instr.rotRegOf op r) = [0xCB, opcode (8 * rotCode op + regCode r)] ∧
    ∃ t, exec (Instr.rotRegOf op r) s = .next t ∧
      (∀ k, k < 8 → (t.reg r).getLsbD k = shiftedBit op (s.reg r) s.flags.c k) ∧
      t.flags = ⟨decide (t.reg r = 0), false, false, shiftedOut op (s.reg r)⟩ ∧
      Retired 2 8 s t ∧ Frame [r] [] s t ∧ t.sp = s.sp

/-- The eight rotates and shifts of `(HL)` (R195, R197, R199, R201, R203, R205, R207, R209): the byte read is
rotated and written back, with the flags of the register form. -/
def Obligations.RotatesOfMemory : Prop :=
  ∀ (op : RotOp) (s : State),
    encode (Instr.rotAtHlOf op) = [0xCB, opcode (8 * rotCode op + 6)] ∧
    ∃ t, exec (Instr.rotAtHlOf op) s = .next t ∧
      (∀ k, k < 8 → (t.readByte (s.pair .hl)).getLsbD k =
        shiftedBit op (s.readByte (s.pair .hl)) s.flags.c k) ∧
      t.flags = ⟨decide (t.readByte (s.pair .hl) = 0), false, false, shiftedOut op (s.readByte (s.pair .hl))⟩ ∧
      Retired 2 16 s t ∧ Frame [] [event (s.pair .hl) (t.readByte (s.pair .hl))] s t ∧ t.sp = s.sp

/-- R210, R211: `BIT` sets Z to the complement of the bit, clears N, sets H, leaves C and the operand. -/
def Obligations.BitTests : Prop :=
  ∀ (i : Idx8) (r : Reg) (s : State),
    encode (Instr.bitRegOf i r) = [0xCB, opcode (0x40 + 8 * i.value + regCode r)] ∧
    encode (Instr.bitAtHlOf i) = [0xCB, opcode (0x46 + 8 * i.value)] ∧
    (∃ t, exec (Instr.bitRegOf i r) s = .next t ∧
      t.flags = ⟨!(s.reg r).getLsbD i.value, false, true, s.flags.c⟩ ∧
      Retired 2 8 s t ∧ Frame [] [] s t ∧ t.sp = s.sp) ∧
    (∃ t, exec (Instr.bitAtHlOf i) s = .next t ∧
      t.flags = ⟨!(s.readByte (s.pair .hl)).getLsbD i.value, false, true, s.flags.c⟩ ∧
      Retired 2 12 s t ∧ Frame [] [] s t ∧ t.sp = s.sp)

/-- R212 to R215: `RES` and `SET` give bit `b` the value 0 or 1 and keep the other seven; no flag changes,
and the `(HL)` forms always write. -/
def Obligations.BitResetsAndSets : Prop :=
  ∀ (i : Idx8) (r : Reg) (s : State),
    encode (Instr.resRegOf i r) = [0xCB, opcode (0x80 + 8 * i.value + regCode r)] ∧
    encode (Instr.setRegOf i r) = [0xCB, opcode (0xC0 + 8 * i.value + regCode r)] ∧
    encode (Instr.resAtHlOf i) = [0xCB, opcode (0x86 + 8 * i.value)] ∧
    encode (Instr.setAtHlOf i) = [0xCB, opcode (0xC6 + 8 * i.value)] ∧
    (∃ t, exec (Instr.resRegOf i r) s = .next t ∧
      (∀ k, k < 8 → (t.reg r).getLsbD k = if k = i.value then false else (s.reg r).getLsbD k) ∧
      Retired 2 8 s t ∧ Frame [r] [] s t ∧ t.flags = s.flags ∧ t.sp = s.sp) ∧
    (∃ t, exec (Instr.setRegOf i r) s = .next t ∧
      (∀ k, k < 8 → (t.reg r).getLsbD k = if k = i.value then true else (s.reg r).getLsbD k) ∧
      Retired 2 8 s t ∧ Frame [r] [] s t ∧ t.flags = s.flags ∧ t.sp = s.sp) ∧
    (∃ t, exec (Instr.resAtHlOf i) s = .next t ∧
      (∀ k, k < 8 → (t.readByte (s.pair .hl)).getLsbD k =
        if k = i.value then false else (s.readByte (s.pair .hl)).getLsbD k) ∧
      Retired 2 16 s t ∧ Frame [] [event (s.pair .hl) (t.readByte (s.pair .hl))] s t ∧
      t.flags = s.flags ∧ t.sp = s.sp) ∧
    (∃ t, exec (Instr.setAtHlOf i) s = .next t ∧
      (∀ k, k < 8 → (t.readByte (s.pair .hl)).getLsbD k =
        if k = i.value then true else (s.readByte (s.pair .hl)).getLsbD k) ∧
      Retired 2 16 s t ∧ Frame [] [event (s.pair .hl) (t.readByte (s.pair .hl))] s t ∧
      t.flags = s.flags ∧ t.sp = s.sp)

/-! ## Control flow -/

/-- R221 to R225: absolute and relative jumps, and the conditional ones taken and not taken; a relative
target is the address after the displacement byte plus the displacement read as signed, modulo 2^16. -/
def Obligations.Jumps : Prop :=
  ∀ (cc : Cond) (w : Word) (e : Byte) (s : State),
    encode (.jpA16 w) = [0xC3, loByte w, hiByte w] ∧ encode .jpAtHl = [0xE9] ∧ encode (.jrR8 e) = [0x18, e] ∧
    encode (Instr.jpCondOf cc w) = [opcode (0xC2 + 8 * condCode cc), loByte w, hiByte w] ∧
    encode (Instr.jrCondOf cc e) = [opcode (0x20 + 8 * condCode cc), e] ∧
    (∃ t, exec (.jpA16 w) s = .next t ∧ t.pc = w ∧ t.clk = s.clk + 16 ∧
      Frame [] [] s t ∧ t.flags = s.flags ∧ t.sp = s.sp) ∧
    (∃ t, exec .jpAtHl s = .next t ∧ t.pc = s.pair .hl ∧ t.clk = s.clk + 4 ∧
      Frame [] [] s t ∧ t.flags = s.flags ∧ t.sp = s.sp) ∧
    (∃ t, exec (Instr.jpCondOf cc w) s = .next t ∧
      (condHolds s cc → t.pc = w ∧ t.clk = s.clk + 16) ∧
      (¬ condHolds s cc → Retired 3 12 s t) ∧
      Frame [] [] s t ∧ t.flags = s.flags ∧ t.sp = s.sp) ∧
    (∃ t, exec (.jrR8 e) s = .next t ∧ (t.pc.toNat : Int) = ((s.pc.toNat : Int) + 2 + e.toInt) % 65536 ∧
      t.clk = s.clk + 12 ∧ Frame [] [] s t ∧ t.flags = s.flags ∧ t.sp = s.sp) ∧
    (∃ t, exec (Instr.jrCondOf cc e) s = .next t ∧
      (condHolds s cc →
        (t.pc.toNat : Int) = ((s.pc.toNat : Int) + 2 + e.toInt) % 65536 ∧ t.clk = s.clk + 12) ∧
      (¬ condHolds s cc → Retired 2 8 s t) ∧
      Frame [] [] s t ∧ t.flags = s.flags ∧ t.sp = s.sp)

/-- R226, R227, R231: calls and restarts push the address of the next instruction, then jump; a call not
taken pushes nothing. -/
def Obligations.CallsAndRestarts : Prop :=
  ∀ (cc : Cond) (w : Word) (i : Idx8) (s : State),
    encode (.callA16 w) = [0xCD, loByte w, hiByte w] ∧ encode (Instr.rstOf i) = [opcode (0xC7 + 8 * i.value)] ∧
    encode (Instr.callCondOf cc w) = [opcode (0xC4 + 8 * condCode cc), loByte w, hiByte w] ∧
    (∃ t, exec (.callA16 w) s = .next t ∧ Called (s.pc + 3) w s t ∧ t.clk = s.clk + 24) ∧
    (∃ t, exec (Instr.rstOf i) s = .next t ∧ Called (s.pc + 1) (BitVec.ofNat 16 (8 * i.value)) s t ∧
      t.clk = s.clk + 16) ∧
    (∃ t, exec (Instr.callCondOf cc w) s = .next t ∧
      (condHolds s cc → Called (s.pc + 3) w s t ∧ t.clk = s.clk + 24) ∧
      (¬ condHolds s cc → Retired 3 12 s t ∧ Frame [] [] s t ∧ t.flags = s.flags ∧ t.sp = s.sp))

/-- R228, R229, R230: returns; a return not taken reads nothing; `RETI` enables interrupts at once. -/
def Obligations.Returns : Prop :=
  ∀ (cc : Cond) (s : State),
    encode .ret = [0xC9] ∧ encode .reti = [0xD9] ∧ encode (Instr.retCondOf cc) = [opcode (0xC0 + 8 * condCode cc)] ∧
    (∃ t, exec .ret s = .next t ∧ Returned s t ∧ t.clk = s.clk + 16 ∧ ControlKept s t) ∧
    (∃ t, exec .reti s = .next t ∧ Returned s t ∧ t.clk = s.clk + 16 ∧ t.ime = true ∧ t.imeSched = false) ∧
    (∃ t, exec (Instr.retCondOf cc) s = .next t ∧
      (condHolds s cc → Returned s t ∧ t.clk = s.clk + 20 ∧ ControlKept s t) ∧
      (¬ condHolds s cc → Retired 1 8 s t ∧ Frame [] [] s t ∧ t.flags = s.flags ∧ t.sp = s.sp))

/-- R226, R228: a call, then in the called state a return, restores `PC` to the instruction after the call
and `SP` to its value before it, for every `SP`. -/
def Obligations.CallThenReturn : Prop :=
  ∀ (w : Word) (s : State), ∃ t u, exec (.callA16 w) s = .next t ∧ t.pc = w ∧ exec .ret t = .next u ∧
    u.pc = s.pc + 3 ∧ u.sp = s.sp ∧ RegsKeptExcept [] s u ∧ u.flags = s.flags

/-! ## System instructions -/

/-- R235, R237, R238: `NOP`; `STOP`, whatever its padding byte; `DI`, at once and cancelling an `EI`. -/
def Obligations.NopStopDi : Prop :=
  ∀ (pad : Byte) (s : State),
    encode .nop = [0x00] ∧ encode (.stop pad) = [0x10, pad] ∧ encode .di = [0xF3] ∧
    exec .nop s = .next { s with pc := s.pc + 1, clk := s.clk + 4 } ∧
    exec (.stop pad) s = .next { s with pc := s.pc + 2, clk := s.clk + 4, run := .stopped } ∧
    exec .di s = .next { s with pc := s.pc + 1, clk := s.clk + 4, ime := false, imeSched := false }

/-- R239: `EI` enables at once with `EI_DELAY` = 0, schedules the enable with 1 when `IME` is 0, and does
nothing more when `IME` is already 1. -/
def Obligations.EnableInterrupts : Prop :=
  encode .ei = [0xFB] ∧ ∀ s : State, ∃ t, exec .ei s = .next t ∧
    (s.params.eiDelay = 0 → t.ime = true ∧ t.imeSched = s.imeSched) ∧
    (s.params.eiDelay = 1 → s.ime = false → t.ime = false ∧ t.imeSched = true) ∧
    (s.params.eiDelay = 1 → s.ime = true → t.ime = true ∧ t.imeSched = s.imeSched) ∧
    { t with ime := s.ime, imeSched := s.imeSched } = { s with pc := s.pc + 1, clk := s.clk + 4 }

/-- R236: with interrupts enabled, or no request in this step's sample, `HALT` enters the halted state. -/
def Obligations.HaltEnters : Prop :=
  encode .halt = [0x76] ∧ ∀ s : State, (s.ime = true ∨ s.irqSample = none) →
    exec .halt s = .next { s with pc := s.pc + 1, clk := s.clk + 4, run := .halted }

/-- R236, R268: with `IME` = 0 and a request in this step's sample the spec gives `HALT` no meaning. -/
def Obligations.HaltRefused : Prop :=
  ∀ (s : State) (v : Word), s.ime = false → s.irqSample = some v → exec .halt s = .refused .haltWithPendingRequest

/-! ## Rules about every instruction -/

/-- R247, R80: the cycles an instruction adds are its descriptor's, `cycles_not_taken` only where it has one. -/
def Obligations.CyclesAreTheDescriptors : Prop :=
  ∀ (i : Instr) (s t : State) (d : Descriptor), exec i s = .next t → i.desc = some d →
    t.clk = s.clk + d.cycles ∨
      ∃ c, d.cyclesNotTaken = some c ∧ t.clk = s.clk + c ∧ t.pc = s.pc + BitVec.ofNat 16 d.length

/-- R246, R19: after an instruction that is no jump, call, return or restart (rules R221 to R231), `PC` has
advanced by the descriptor's length. -/
def Obligations.PcAdvancesByLength : Prop :=
  ∀ (i : Instr) (s t : State) (d : Descriptor), exec i s = .next t → i.desc = some d →
    ¬ (221 ≤ d.rule ∧ d.rule ≤ 231) → t.pc = s.pc + BitVec.ofNat 16 d.length

/-- R17, R149: loads other than `POP AF` and `LD HL,SP+r8`, pushes, `INC rr`, `DEC rr`, `RES`, `SET`, control flow
and the system instructions write no flag. -/
def Obligations.FlagsOnlyByTheTable : Prop :=
  ∀ (i : Instr) (s t : State) (d : Descriptor), exec i s = .next t → i.desc = some d →
    ((101 ≤ d.rule ∧ d.rule ≤ 134) ∨ (136 ≤ d.rule ∧ d.rule ≤ 138) ∨ d.rule = 186 ∨ d.rule = 187 ∨
      (212 ≤ d.rule ∧ d.rule ≤ 239)) → t.flags = s.flags

/-- R20, R25, R26: no instruction changes the debug unit, the parameters or the inputs; `IME` and its
schedule change only by `DI`, `EI`, `RETI`; the run state only by `HALT`, `STOP` or a fault. -/
def Obligations.ControlOnlyBySystemInstructions : Prop :=
  ∀ (i : Instr) (s t : State), exec i s = .next t →
    EngineKept s t ∧
    ((t.ime ≠ s.ime ∨ t.imeSched ≠ s.imeSched) → i = .di ∨ i = .ei ∨ i = .reti) ∧
    (t.run ≠ s.run → i = .halt ∨ (∃ pad, i = .stop pad) ∨ ∃ b, i = .illegal b)

/-- R320, R80, R259: nothing reads `clk`: a step from a state with a later clock gives the same state with the
clock later by as much, and stops wherever the step stops; so the record of a run of any number of steps is
the same but for the final clock. -/
def Obligations.StepIgnoresClock : Prop :=
  (∀ (s : State) (n : Nat),
    step { s with clk := s.clk + n } =
      match step s with
      | .next t => .next { t with clk := t.clk + n }
      | .fault f => .fault f
      | .refused r => .refused r) ∧
  ∀ (s : State) (n k : Nat),
    State.record k { s with clk := s.clk + n } =
      { State.record k s with final := { (State.record k s).final with clk := (State.record k s).final.clk + n } }

/-! ## The step -/

/-- R246, R252: when the bytes at `PC` decode to an instruction of the table, a step of a machine that
executes is `exec` of it, with the acknowledge output cleared before and `State.finish` after. -/
def Obligations.StepRunsDecodedInstruction : Prop :=
  ∀ (s : State) (i : Instr) (rest : List Byte), Executing s → i.wf = true →
    decode [s.readByte s.pc, s.readByte (s.pc + 1), s.readByte (s.pc + 2)] = .ok (i, rest) →
    step s =
      match exec i (s.setAck none) with
      | .next t => .next ((s.setAck none).finish t)
      | .fault f => .fault f
      | .refused r => .refused r

/-- R247, R248, R252, R253: a step whose sample is `none`, or whose instruction is `STOP`, and whose
instruction does not fault leaves what the instruction left, with a scheduled enable of before the step
committed unless the instruction cleared it, the sample used, and the cycles put out (the input feed and the
outputs as fields of the state are the model's, logs 4 and 11). -/
def Obligations.QuietStepCommitsEnable : Prop :=
  ∀ s t : State, Executing s → (s.irqSample = none ∨ t.run = .stopped) →
    exec (decodeAt s.mem s.pc) (s.setAck none) = .next t → t.unfaulted = true →
    step s = .next { t with
      ime := t.ime || (s.imeSched && t.imeSched)
      imeSched := t.imeSched && !s.imeSched
      irqIn := t.irqIn.tail
      result := .ok
      cycles := t.clk - s.clk }

/-- R272, R273: a request in the sample of a step that ends with `IME` 1 is dispatched: `PC` pushed, enable
and schedule cleared, control at the vector, `INT_CYCLES` added, acknowledge put out, everything else as
the instruction left it. -/
def Obligations.InterruptDispatch : Prop :=
  ∀ (s t : State) (v : Word), Executing s → s.irqSample = some v →
    exec (decodeAt s.mem s.pc) (s.setAck none) = .next t → (t.run = .running ∨ t.run = .halted) →
    (t.ime = true ∨ (s.imeSched = true ∧ t.imeSched = true)) →
    ∃ w, step s = .next w ∧ w.pc = v ∧ w.sp = t.sp - 2 ∧
      w.readByte (t.sp - 1) = hiByte t.pc ∧ w.readByte (t.sp - 2) = loByte t.pc ∧
      StoresOnly [event (t.sp - 2) (loByte t.pc), event (t.sp - 1) (hiByte t.pc)] t w ∧
      w.ime = false ∧ w.imeSched = false ∧ w.run = .running ∧ w.clk = t.clk + s.params.intCycles ∧ w.ack = some v ∧
      w.regs = t.regs ∧ w.flags = t.flags ∧ w.bp = t.bp ∧ w.dbgMode = t.dbgMode ∧
      w.params = t.params ∧ w.irqIn = t.irqIn.tail ∧ w.hostIn = t.hostIn ∧ w.exited = t.exited ∧
      w.result = .ok ∧ w.cycles = t.clk + s.params.intCycles - s.clk

/-- R272, R276: a request in the sample of a step that ends with `IME` 0 is not taken and not remembered:
nothing is pushed or acknowledged, and it only ends a halted state. -/
def Obligations.MaskedRequestIgnored : Prop :=
  ∀ (s t : State) (v : Word), Executing s → s.irqSample = some v →
    exec (decodeAt s.mem s.pc) (s.setAck none) = .next t → (t.run = .running ∨ t.run = .halted) →
    t.ime = false → (s.imeSched = false ∨ t.imeSched = false) →
    step s = .next { t with run := .running, irqIn := t.irqIn.tail, result := .ok, cycles := t.clk - s.clk }

/-- R249, R272: an idle step fetches nothing, adds `HALT_TICK`, and with no request changes nothing else;
with a request it wakes, and dispatches when `IME` is 1. -/
def Obligations.HaltedStep : Prop :=
  ∀ s : State, Idling s → s.imeSched = false →
    (s.irqSample = none →
      step s = .next { s with
        clk := s.clk + s.params.haltTick, irqIn := s.irqIn.tail, ack := none
        result := .ok, cycles := s.params.haltTick }) ∧
    (∀ v, s.irqSample = some v → s.ime = false →
      step s = .next { s with
        run := .running, clk := s.clk + s.params.haltTick, irqIn := s.irqIn.tail, ack := none
        result := .ok, cycles := s.params.haltTick }) ∧
    (∀ v, s.irqSample = some v → s.ime = true →
      ∃ w, step s = .next w ∧ w.run = .running ∧ w.pc = v ∧ w.sp = s.sp - 2 ∧ w.popValue = s.pc ∧
        StoresOnly [event (s.sp - 2) (loByte s.pc), event (s.sp - 1) (hiByte s.pc)] s w ∧
        w.ime = false ∧ w.imeSched = false ∧ w.ack = some v ∧
        w.clk = s.clk + s.params.haltTick + s.params.intCycles ∧ w.regs = s.regs ∧ w.flags = s.flags)

/-- R250, R262, R256: a stopped or faulted machine, or one whose host has left, takes no further step: every
later step leaves the state as it is and reports `ended` with 0 cycles (the host's having left as a field, and
the outputs, are the model's, logs 6 and 11). -/
def Obligations.EndedMachineStays : Prop :=
  ∀ s : State, s.hostIn = .quiet → (s.exited = true ∨ s.run = .stopped ∨ ∃ f, s.run = .faulted f) →
    step s = .next { s with ack := none, result := .ended, cycles := 0 }

/-- R251, R254: a free-running machine on a breakpoint is paused with nothing else changed and no sample
used; a paused machine without a `STEP` waits (the outputs are the model's, log 11). -/
def Obligations.BreakpointsAndPause : Prop :=
  ∀ s : State, s.hostIn = .quiet → s.exited = false →
    (s.run = .running → s.dbgMode = .freeRunning → s.isBreakpoint s.pc = true →
      step s = .next { s with dbgMode := .paused, ack := none, result := .breakpointHit s.pc, cycles := 0 }) ∧
    ((s.run = .running ∨ s.run = .halted) → s.dbgMode = .paused →
      step s = .next { s with ack := none, result := .waitingForHost, cycles := 0 })

/-- R293: the host's `STEP` on a paused running machine executes exactly the step it would take off any
breakpoint, on a halted one an idle step, on an ended one nothing, and leaves it paused; `BREAK` resumes, and
on a breakpoint hits it again at once (R292); adding, removing, `CONTINUE` and `NOOP` edit the set or nothing
and the machine waits; `EXIT` ends the run.  R296: the pause request pauses a free-running machine before the
step.  One host action before each step is the model's form of R254, and `rest` the actions after it (logs 5
and 6).  That `EXIT` sets the flag on a stopped or faulted machine too is the model's choice (log 22). -/
def Obligations.HostActions : Prop :=
  ∀ (s : State) (rest : Feed HostCmd), s.exited = false →
    (s.dbgMode = .paused →
      ((s.run = .running ∨ s.run = .halted) →
        step (s.setHostIn (.item .step rest)) = ((s.setHostIn rest).setAck none).executingStep ∧
        (∀ t, step (s.setHostIn (.item .step rest)) = .next t → t.dbgMode = .paused ∧ t.hostIn = rest) ∧
        ((s.run = .halted ∨ s.isBreakpoint s.pc = false) →
          step (s.setHostIn (.item .brk rest)) =
            (((s.setDbgMode .freeRunning).setHostIn rest).setAck none).executingStep) ∧
        (∀ x, step (s.setHostIn (.item (.addBreakpoint x) rest)) =
          .next { s.addBreakpoint x with hostIn := rest, ack := none, result := .waitingForHost, cycles := 0 }) ∧
        (∀ i, step (s.setHostIn (.item (.removeBreakpoint i) rest)) =
          .next { s.removeBreakpoint i with hostIn := rest, ack := none, result := .waitingForHost, cycles := 0 }) ∧
        ∀ c, c = .cont ∨ c = .noop → step (s.setHostIn (.item c rest)) =
          .next { s with hostIn := rest, ack := none, result := .waitingForHost, cycles := 0 }) ∧
      (s.run = .halted → s.imeSched = false → s.irqSample = none →
        step (s.setHostIn (.item .step rest)) = .next { s with
          clk := s.clk + s.params.haltTick, irqIn := s.irqIn.tail, hostIn := rest, ack := none
          result := .ok, cycles := s.params.haltTick }) ∧
      (s.run = .running → s.isBreakpoint s.pc = true →
        step (s.setHostIn (.item .brk rest)) =
          .next { s with hostIn := rest, ack := none, result := .breakpointHit s.pc, cycles := 0 }) ∧
      ((s.run = .stopped ∨ ∃ f, s.run = .faulted f) →
        step (s.setHostIn (.item .step rest)) =
          .next { s with hostIn := rest, ack := none, result := .ended, cycles := 0 }) ∧
      step (s.setHostIn (.item .exit rest)) =
        .next { s with exited := true, hostIn := rest, ack := none, result := .ended, cycles := 0 }) ∧
    (s.dbgMode = .freeRunning → (s.run = .running ∨ s.run = .halted) →
      step (s.setHostIn (.item .pause rest)) =
        .next { s with dbgMode := .paused, hostIn := rest, ack := none, result := .waitingForHost, cycles := 0 })

/-- R291: adding X makes `isBreakpoint(X)` true and no other address a breakpoint that was not one; removing
it by its index makes it false and leaves every other address as it was; an index out of range changes
nothing. -/
def Obligations.BreakpointSet : Prop :=
  ∀ (s : State) (x y : Word) (i : Nat), ascending s.bp = true →
    (s.addBreakpoint x).isBreakpoint y = (decide (y = x) || s.isBreakpoint y) ∧
    ascending (s.addBreakpoint x).bp = true ∧ ascending (s.removeBreakpoint i).bp = true ∧
    (s.isBreakpoint x = true → (s.addBreakpoint x).bp = s.bp) ∧
    (s.bp[i]? = some x →
      (s.removeBreakpoint i).isBreakpoint x = false ∧
      (s.removeBreakpoint i).isBreakpoint y = (decide (y ≠ x) && s.isBreakpoint y)) ∧
    (s.bp.length ≤ i → (s.removeBreakpoint i).bp = s.bp)

/-! ## Power-on and invariants -/

/-- R300, R301, R265: power-on with an image that fits copies it byte for byte from 0x0000, leaves every other
byte 0x00 and puts out no event, takes the registers from `RESET_REGS` with the low nibble of `F` dropped,
and starts at 0x0000 (the spec's decisions D6, D19, D25; log 2); a longer image is refused and a missing one is a
fault. -/
def Obligations.PowerOn : Prop :=
  ∀ (image : List Byte) (r : ResetRegs) (dbg : Bool) (p : Params) (irq : Feed (Option Word)) (host : Feed HostCmd),
    (image.length ≤ 65536 → ∃ t, powerOn (some image) r dbg p irq host = .next t ∧
      (∀ a : Word, t.readByte a = image.getD a.toNat 0) ∧
      t.regs = ⟨r.b, r.c, r.d, r.e, r.h, r.l, r.a⟩ ∧ t.flags.toByte = r.f &&& 0xF0 ∧ t.sp = r.sp ∧ t.pc = 0 ∧
      t.ime = false ∧ t.imeSched = false ∧ t.run = .running ∧ t.clk = 0 ∧ t.bp = [] ∧
      t.dbgMode = (if dbg then .paused else .freeRunning) ∧ t.trace = [] ∧ t.params = p ∧ t.irqIn = irq ∧ t.hostIn = host ∧
      StateInv t) ∧
    (65536 < image.length → powerOn (some image) r dbg p irq host = .refused .bootImageTooLong) ∧
    powerOn none r dbg p irq host = .fault .bootFileNotFound

/-- R28, R43: what reset leaves with the defaults: every byte 0x00, `clk` 0, and, as the spec's own decisions
(D6, D19, D25; logs 1 and 2), registers, flags and `SP` 0, `PC` 0, interrupts off, running, no breakpoint. -/
def Obligations.ResetState : Prop :=
  (∀ a : Word, State.reset.readByte a = 0) ∧ State.reset.clk = 0 ∧ (∀ r, State.reset.reg r = 0) ∧
  State.reset.flags.toByte = 0 ∧ State.reset.sp = 0 ∧ State.reset.pc = 0 ∧ State.reset.ime = false ∧
  State.reset.imeSched = false ∧ State.reset.run = .running ∧ State.reset.bp = [] ∧
  State.reset.dbgMode = .freeRunning ∧ StateInv State.reset

/-- The invariant is kept by every step: memory stays in canonical form, breakpoints stay an ascending set,
no enable is both given and scheduled (R272), none is scheduled without the `EI` delay (R21) or while
halted (R248). -/
def Obligations.StepKeepsInvariant : Prop :=
  ∀ s t : State, StateInv s → step s = .next t → StateInv t
end

