-- ==== Sys2Proof/Laws/State.lean ====
section
/-! SUPPORT. What each field is after each named update of the state: one lemma a field, true by `rfl`. -/

namespace Sys2Proof.Machine

@[simp] theorem Feed.head_quiet {α : Type} (d : α) (f : Nat → α) : Feed.head d f .quiet = d := rfl
@[simp] theorem Feed.head_item {α : Type} (d : α) (f : Nat → α) (x : α) (r : Feed α) : Feed.head d f (.item x r) = x := rfl
@[simp] theorem Feed.head_oracle {α : Type} (d : α) (f : Nat → α) (k : Nat) : Feed.head d f (.oracle k) = f k := rfl
@[simp] theorem Feed.tail_quiet {α : Type} : Feed.tail (.quiet : Feed α) = .quiet := rfl
@[simp] theorem Feed.tail_item {α : Type} (x : α) (r : Feed α) : Feed.tail (.item x r) = r := rfl
@[simp] theorem Feed.tail_oracle {α : Type} (k : Nat) : Feed.tail (.oracle k : Feed α) = .oracle (k + 1) := rfl


@[simp] theorem State.setRegs_regs (s : State) (x : RegFile) : (s.setRegs x).regs = x := rfl
@[simp] theorem State.setRegs_flags (s : State) (x : RegFile) : (s.setRegs x).flags = s.flags := rfl
@[simp] theorem State.setRegs_sp (s : State) (x : RegFile) : (s.setRegs x).sp = s.sp := rfl
@[simp] theorem State.setRegs_pc (s : State) (x : RegFile) : (s.setRegs x).pc = s.pc := rfl
@[simp] theorem State.setRegs_mem (s : State) (x : RegFile) : (s.setRegs x).mem = s.mem := rfl
@[simp] theorem State.setRegs_clk (s : State) (x : RegFile) : (s.setRegs x).clk = s.clk := rfl
@[simp] theorem State.setRegs_ime (s : State) (x : RegFile) : (s.setRegs x).ime = s.ime := rfl
@[simp] theorem State.setRegs_imeSched (s : State) (x : RegFile) : (s.setRegs x).imeSched = s.imeSched := rfl
@[simp] theorem State.setRegs_run (s : State) (x : RegFile) : (s.setRegs x).run = s.run := rfl
@[simp] theorem State.setRegs_bp (s : State) (x : RegFile) : (s.setRegs x).bp = s.bp := rfl
@[simp] theorem State.setRegs_dbgMode (s : State) (x : RegFile) : (s.setRegs x).dbgMode = s.dbgMode := rfl
@[simp] theorem State.setRegs_params (s : State) (x : RegFile) : (s.setRegs x).params = s.params := rfl
@[simp] theorem State.setRegs_irqIn (s : State) (x : RegFile) : (s.setRegs x).irqIn = s.irqIn := rfl
@[simp] theorem State.setRegs_hostIn (s : State) (x : RegFile) : (s.setRegs x).hostIn = s.hostIn := rfl
@[simp] theorem State.setRegs_exited (s : State) (x : RegFile) : (s.setRegs x).exited = s.exited := rfl
@[simp] theorem State.setRegs_trace (s : State) (x : RegFile) : (s.setRegs x).trace = s.trace := rfl
@[simp] theorem State.setRegs_ack (s : State) (x : RegFile) : (s.setRegs x).ack = s.ack := rfl
@[simp] theorem State.setRegs_result (s : State) (x : RegFile) : (s.setRegs x).result = s.result := rfl
@[simp] theorem State.setRegs_cycles (s : State) (x : RegFile) : (s.setRegs x).cycles = s.cycles := rfl

@[simp] theorem State.setFlags_regs (s : State) (x : Flags) : (s.setFlags x).regs = s.regs := rfl
@[simp] theorem State.setFlags_flags (s : State) (x : Flags) : (s.setFlags x).flags = x := rfl
@[simp] theorem State.setFlags_sp (s : State) (x : Flags) : (s.setFlags x).sp = s.sp := rfl
@[simp] theorem State.setFlags_pc (s : State) (x : Flags) : (s.setFlags x).pc = s.pc := rfl
@[simp] theorem State.setFlags_mem (s : State) (x : Flags) : (s.setFlags x).mem = s.mem := rfl
@[simp] theorem State.setFlags_clk (s : State) (x : Flags) : (s.setFlags x).clk = s.clk := rfl
@[simp] theorem State.setFlags_ime (s : State) (x : Flags) : (s.setFlags x).ime = s.ime := rfl
@[simp] theorem State.setFlags_imeSched (s : State) (x : Flags) : (s.setFlags x).imeSched = s.imeSched := rfl
@[simp] theorem State.setFlags_run (s : State) (x : Flags) : (s.setFlags x).run = s.run := rfl
@[simp] theorem State.setFlags_bp (s : State) (x : Flags) : (s.setFlags x).bp = s.bp := rfl
@[simp] theorem State.setFlags_dbgMode (s : State) (x : Flags) : (s.setFlags x).dbgMode = s.dbgMode := rfl
@[simp] theorem State.setFlags_params (s : State) (x : Flags) : (s.setFlags x).params = s.params := rfl
@[simp] theorem State.setFlags_irqIn (s : State) (x : Flags) : (s.setFlags x).irqIn = s.irqIn := rfl
@[simp] theorem State.setFlags_hostIn (s : State) (x : Flags) : (s.setFlags x).hostIn = s.hostIn := rfl
@[simp] theorem State.setFlags_exited (s : State) (x : Flags) : (s.setFlags x).exited = s.exited := rfl
@[simp] theorem State.setFlags_trace (s : State) (x : Flags) : (s.setFlags x).trace = s.trace := rfl
@[simp] theorem State.setFlags_ack (s : State) (x : Flags) : (s.setFlags x).ack = s.ack := rfl
@[simp] theorem State.setFlags_result (s : State) (x : Flags) : (s.setFlags x).result = s.result := rfl
@[simp] theorem State.setFlags_cycles (s : State) (x : Flags) : (s.setFlags x).cycles = s.cycles := rfl

@[simp] theorem State.setSp_regs (s : State) (x : Word) : (s.setSp x).regs = s.regs := rfl
@[simp] theorem State.setSp_flags (s : State) (x : Word) : (s.setSp x).flags = s.flags := rfl
@[simp] theorem State.setSp_sp (s : State) (x : Word) : (s.setSp x).sp = x := rfl
@[simp] theorem State.setSp_pc (s : State) (x : Word) : (s.setSp x).pc = s.pc := rfl
@[simp] theorem State.setSp_mem (s : State) (x : Word) : (s.setSp x).mem = s.mem := rfl
@[simp] theorem State.setSp_clk (s : State) (x : Word) : (s.setSp x).clk = s.clk := rfl
@[simp] theorem State.setSp_ime (s : State) (x : Word) : (s.setSp x).ime = s.ime := rfl
@[simp] theorem State.setSp_imeSched (s : State) (x : Word) : (s.setSp x).imeSched = s.imeSched := rfl
@[simp] theorem State.setSp_run (s : State) (x : Word) : (s.setSp x).run = s.run := rfl
@[simp] theorem State.setSp_bp (s : State) (x : Word) : (s.setSp x).bp = s.bp := rfl
@[simp] theorem State.setSp_dbgMode (s : State) (x : Word) : (s.setSp x).dbgMode = s.dbgMode := rfl
@[simp] theorem State.setSp_params (s : State) (x : Word) : (s.setSp x).params = s.params := rfl
@[simp] theorem State.setSp_irqIn (s : State) (x : Word) : (s.setSp x).irqIn = s.irqIn := rfl
@[simp] theorem State.setSp_hostIn (s : State) (x : Word) : (s.setSp x).hostIn = s.hostIn := rfl
@[simp] theorem State.setSp_exited (s : State) (x : Word) : (s.setSp x).exited = s.exited := rfl
@[simp] theorem State.setSp_trace (s : State) (x : Word) : (s.setSp x).trace = s.trace := rfl
@[simp] theorem State.setSp_ack (s : State) (x : Word) : (s.setSp x).ack = s.ack := rfl
@[simp] theorem State.setSp_result (s : State) (x : Word) : (s.setSp x).result = s.result := rfl
@[simp] theorem State.setSp_cycles (s : State) (x : Word) : (s.setSp x).cycles = s.cycles := rfl

@[simp] theorem State.setPc_regs (s : State) (x : Word) : (s.setPc x).regs = s.regs := rfl
@[simp] theorem State.setPc_flags (s : State) (x : Word) : (s.setPc x).flags = s.flags := rfl
@[simp] theorem State.setPc_sp (s : State) (x : Word) : (s.setPc x).sp = s.sp := rfl
@[simp] theorem State.setPc_pc (s : State) (x : Word) : (s.setPc x).pc = x := rfl
@[simp] theorem State.setPc_mem (s : State) (x : Word) : (s.setPc x).mem = s.mem := rfl
@[simp] theorem State.setPc_clk (s : State) (x : Word) : (s.setPc x).clk = s.clk := rfl
@[simp] theorem State.setPc_ime (s : State) (x : Word) : (s.setPc x).ime = s.ime := rfl
@[simp] theorem State.setPc_imeSched (s : State) (x : Word) : (s.setPc x).imeSched = s.imeSched := rfl
@[simp] theorem State.setPc_run (s : State) (x : Word) : (s.setPc x).run = s.run := rfl
@[simp] theorem State.setPc_bp (s : State) (x : Word) : (s.setPc x).bp = s.bp := rfl
@[simp] theorem State.setPc_dbgMode (s : State) (x : Word) : (s.setPc x).dbgMode = s.dbgMode := rfl
@[simp] theorem State.setPc_params (s : State) (x : Word) : (s.setPc x).params = s.params := rfl
@[simp] theorem State.setPc_irqIn (s : State) (x : Word) : (s.setPc x).irqIn = s.irqIn := rfl
@[simp] theorem State.setPc_hostIn (s : State) (x : Word) : (s.setPc x).hostIn = s.hostIn := rfl
@[simp] theorem State.setPc_exited (s : State) (x : Word) : (s.setPc x).exited = s.exited := rfl
@[simp] theorem State.setPc_trace (s : State) (x : Word) : (s.setPc x).trace = s.trace := rfl
@[simp] theorem State.setPc_ack (s : State) (x : Word) : (s.setPc x).ack = s.ack := rfl
@[simp] theorem State.setPc_result (s : State) (x : Word) : (s.setPc x).result = s.result := rfl
@[simp] theorem State.setPc_cycles (s : State) (x : Word) : (s.setPc x).cycles = s.cycles := rfl

@[simp] theorem State.setMem_regs (s : State) (x : Memory) : (s.setMem x).regs = s.regs := rfl
@[simp] theorem State.setMem_flags (s : State) (x : Memory) : (s.setMem x).flags = s.flags := rfl
@[simp] theorem State.setMem_sp (s : State) (x : Memory) : (s.setMem x).sp = s.sp := rfl
@[simp] theorem State.setMem_pc (s : State) (x : Memory) : (s.setMem x).pc = s.pc := rfl
@[simp] theorem State.setMem_mem (s : State) (x : Memory) : (s.setMem x).mem = x := rfl
@[simp] theorem State.setMem_clk (s : State) (x : Memory) : (s.setMem x).clk = s.clk := rfl
@[simp] theorem State.setMem_ime (s : State) (x : Memory) : (s.setMem x).ime = s.ime := rfl
@[simp] theorem State.setMem_imeSched (s : State) (x : Memory) : (s.setMem x).imeSched = s.imeSched := rfl
@[simp] theorem State.setMem_run (s : State) (x : Memory) : (s.setMem x).run = s.run := rfl
@[simp] theorem State.setMem_bp (s : State) (x : Memory) : (s.setMem x).bp = s.bp := rfl
@[simp] theorem State.setMem_dbgMode (s : State) (x : Memory) : (s.setMem x).dbgMode = s.dbgMode := rfl
@[simp] theorem State.setMem_params (s : State) (x : Memory) : (s.setMem x).params = s.params := rfl
@[simp] theorem State.setMem_irqIn (s : State) (x : Memory) : (s.setMem x).irqIn = s.irqIn := rfl
@[simp] theorem State.setMem_hostIn (s : State) (x : Memory) : (s.setMem x).hostIn = s.hostIn := rfl
@[simp] theorem State.setMem_exited (s : State) (x : Memory) : (s.setMem x).exited = s.exited := rfl
@[simp] theorem State.setMem_trace (s : State) (x : Memory) : (s.setMem x).trace = s.trace := rfl
@[simp] theorem State.setMem_ack (s : State) (x : Memory) : (s.setMem x).ack = s.ack := rfl
@[simp] theorem State.setMem_result (s : State) (x : Memory) : (s.setMem x).result = s.result := rfl
@[simp] theorem State.setMem_cycles (s : State) (x : Memory) : (s.setMem x).cycles = s.cycles := rfl

@[simp] theorem State.setClk_regs (s : State) (x : Nat) : (s.setClk x).regs = s.regs := rfl
@[simp] theorem State.setClk_flags (s : State) (x : Nat) : (s.setClk x).flags = s.flags := rfl
@[simp] theorem State.setClk_sp (s : State) (x : Nat) : (s.setClk x).sp = s.sp := rfl
@[simp] theorem State.setClk_pc (s : State) (x : Nat) : (s.setClk x).pc = s.pc := rfl
@[simp] theorem State.setClk_mem (s : State) (x : Nat) : (s.setClk x).mem = s.mem := rfl
@[simp] theorem State.setClk_clk (s : State) (x : Nat) : (s.setClk x).clk = x := rfl
@[simp] theorem State.setClk_ime (s : State) (x : Nat) : (s.setClk x).ime = s.ime := rfl
@[simp] theorem State.setClk_imeSched (s : State) (x : Nat) : (s.setClk x).imeSched = s.imeSched := rfl
@[simp] theorem State.setClk_run (s : State) (x : Nat) : (s.setClk x).run = s.run := rfl
@[simp] theorem State.setClk_bp (s : State) (x : Nat) : (s.setClk x).bp = s.bp := rfl
@[simp] theorem State.setClk_dbgMode (s : State) (x : Nat) : (s.setClk x).dbgMode = s.dbgMode := rfl
@[simp] theorem State.setClk_params (s : State) (x : Nat) : (s.setClk x).params = s.params := rfl
@[simp] theorem State.setClk_irqIn (s : State) (x : Nat) : (s.setClk x).irqIn = s.irqIn := rfl
@[simp] theorem State.setClk_hostIn (s : State) (x : Nat) : (s.setClk x).hostIn = s.hostIn := rfl
@[simp] theorem State.setClk_exited (s : State) (x : Nat) : (s.setClk x).exited = s.exited := rfl
@[simp] theorem State.setClk_trace (s : State) (x : Nat) : (s.setClk x).trace = s.trace := rfl
@[simp] theorem State.setClk_ack (s : State) (x : Nat) : (s.setClk x).ack = s.ack := rfl
@[simp] theorem State.setClk_result (s : State) (x : Nat) : (s.setClk x).result = s.result := rfl
@[simp] theorem State.setClk_cycles (s : State) (x : Nat) : (s.setClk x).cycles = s.cycles := rfl

@[simp] theorem State.setIme_regs (s : State) (x : Bool) : (s.setIme x).regs = s.regs := rfl
@[simp] theorem State.setIme_flags (s : State) (x : Bool) : (s.setIme x).flags = s.flags := rfl
@[simp] theorem State.setIme_sp (s : State) (x : Bool) : (s.setIme x).sp = s.sp := rfl
@[simp] theorem State.setIme_pc (s : State) (x : Bool) : (s.setIme x).pc = s.pc := rfl
@[simp] theorem State.setIme_mem (s : State) (x : Bool) : (s.setIme x).mem = s.mem := rfl
@[simp] theorem State.setIme_clk (s : State) (x : Bool) : (s.setIme x).clk = s.clk := rfl
@[simp] theorem State.setIme_ime (s : State) (x : Bool) : (s.setIme x).ime = x := rfl
@[simp] theorem State.setIme_imeSched (s : State) (x : Bool) : (s.setIme x).imeSched = s.imeSched := rfl
@[simp] theorem State.setIme_run (s : State) (x : Bool) : (s.setIme x).run = s.run := rfl
@[simp] theorem State.setIme_bp (s : State) (x : Bool) : (s.setIme x).bp = s.bp := rfl
@[simp] theorem State.setIme_dbgMode (s : State) (x : Bool) : (s.setIme x).dbgMode = s.dbgMode := rfl
@[simp] theorem State.setIme_params (s : State) (x : Bool) : (s.setIme x).params = s.params := rfl
@[simp] theorem State.setIme_irqIn (s : State) (x : Bool) : (s.setIme x).irqIn = s.irqIn := rfl
@[simp] theorem State.setIme_hostIn (s : State) (x : Bool) : (s.setIme x).hostIn = s.hostIn := rfl
@[simp] theorem State.setIme_exited (s : State) (x : Bool) : (s.setIme x).exited = s.exited := rfl
@[simp] theorem State.setIme_trace (s : State) (x : Bool) : (s.setIme x).trace = s.trace := rfl
@[simp] theorem State.setIme_ack (s : State) (x : Bool) : (s.setIme x).ack = s.ack := rfl
@[simp] theorem State.setIme_result (s : State) (x : Bool) : (s.setIme x).result = s.result := rfl
@[simp] theorem State.setIme_cycles (s : State) (x : Bool) : (s.setIme x).cycles = s.cycles := rfl

@[simp] theorem State.setImeSched_regs (s : State) (x : Bool) : (s.setImeSched x).regs = s.regs := rfl
@[simp] theorem State.setImeSched_flags (s : State) (x : Bool) : (s.setImeSched x).flags = s.flags := rfl
@[simp] theorem State.setImeSched_sp (s : State) (x : Bool) : (s.setImeSched x).sp = s.sp := rfl
@[simp] theorem State.setImeSched_pc (s : State) (x : Bool) : (s.setImeSched x).pc = s.pc := rfl
@[simp] theorem State.setImeSched_mem (s : State) (x : Bool) : (s.setImeSched x).mem = s.mem := rfl
@[simp] theorem State.setImeSched_clk (s : State) (x : Bool) : (s.setImeSched x).clk = s.clk := rfl
@[simp] theorem State.setImeSched_ime (s : State) (x : Bool) : (s.setImeSched x).ime = s.ime := rfl
@[simp] theorem State.setImeSched_imeSched (s : State) (x : Bool) : (s.setImeSched x).imeSched = x := rfl
@[simp] theorem State.setImeSched_run (s : State) (x : Bool) : (s.setImeSched x).run = s.run := rfl
@[simp] theorem State.setImeSched_bp (s : State) (x : Bool) : (s.setImeSched x).bp = s.bp := rfl
@[simp] theorem State.setImeSched_dbgMode (s : State) (x : Bool) : (s.setImeSched x).dbgMode = s.dbgMode := rfl
@[simp] theorem State.setImeSched_params (s : State) (x : Bool) : (s.setImeSched x).params = s.params := rfl
@[simp] theorem State.setImeSched_irqIn (s : State) (x : Bool) : (s.setImeSched x).irqIn = s.irqIn := rfl
@[simp] theorem State.setImeSched_hostIn (s : State) (x : Bool) : (s.setImeSched x).hostIn = s.hostIn := rfl
@[simp] theorem State.setImeSched_exited (s : State) (x : Bool) : (s.setImeSched x).exited = s.exited := rfl
@[simp] theorem State.setImeSched_trace (s : State) (x : Bool) : (s.setImeSched x).trace = s.trace := rfl
@[simp] theorem State.setImeSched_ack (s : State) (x : Bool) : (s.setImeSched x).ack = s.ack := rfl
@[simp] theorem State.setImeSched_result (s : State) (x : Bool) : (s.setImeSched x).result = s.result := rfl
@[simp] theorem State.setImeSched_cycles (s : State) (x : Bool) : (s.setImeSched x).cycles = s.cycles := rfl

@[simp] theorem State.setRun_regs (s : State) (x : RunState) : (s.setRun x).regs = s.regs := rfl
@[simp] theorem State.setRun_flags (s : State) (x : RunState) : (s.setRun x).flags = s.flags := rfl
@[simp] theorem State.setRun_sp (s : State) (x : RunState) : (s.setRun x).sp = s.sp := rfl
@[simp] theorem State.setRun_pc (s : State) (x : RunState) : (s.setRun x).pc = s.pc := rfl
@[simp] theorem State.setRun_mem (s : State) (x : RunState) : (s.setRun x).mem = s.mem := rfl
@[simp] theorem State.setRun_clk (s : State) (x : RunState) : (s.setRun x).clk = s.clk := rfl
@[simp] theorem State.setRun_ime (s : State) (x : RunState) : (s.setRun x).ime = s.ime := rfl
@[simp] theorem State.setRun_imeSched (s : State) (x : RunState) : (s.setRun x).imeSched = s.imeSched := rfl
@[simp] theorem State.setRun_run (s : State) (x : RunState) : (s.setRun x).run = x := rfl
@[simp] theorem State.setRun_bp (s : State) (x : RunState) : (s.setRun x).bp = s.bp := rfl
@[simp] theorem State.setRun_dbgMode (s : State) (x : RunState) : (s.setRun x).dbgMode = s.dbgMode := rfl
@[simp] theorem State.setRun_params (s : State) (x : RunState) : (s.setRun x).params = s.params := rfl
@[simp] theorem State.setRun_irqIn (s : State) (x : RunState) : (s.setRun x).irqIn = s.irqIn := rfl
@[simp] theorem State.setRun_hostIn (s : State) (x : RunState) : (s.setRun x).hostIn = s.hostIn := rfl
@[simp] theorem State.setRun_exited (s : State) (x : RunState) : (s.setRun x).exited = s.exited := rfl
@[simp] theorem State.setRun_trace (s : State) (x : RunState) : (s.setRun x).trace = s.trace := rfl
@[simp] theorem State.setRun_ack (s : State) (x : RunState) : (s.setRun x).ack = s.ack := rfl
@[simp] theorem State.setRun_result (s : State) (x : RunState) : (s.setRun x).result = s.result := rfl
@[simp] theorem State.setRun_cycles (s : State) (x : RunState) : (s.setRun x).cycles = s.cycles := rfl

@[simp] theorem State.setBp_regs (s : State) (x : List Word) : (s.setBp x).regs = s.regs := rfl
@[simp] theorem State.setBp_flags (s : State) (x : List Word) : (s.setBp x).flags = s.flags := rfl
@[simp] theorem State.setBp_sp (s : State) (x : List Word) : (s.setBp x).sp = s.sp := rfl
@[simp] theorem State.setBp_pc (s : State) (x : List Word) : (s.setBp x).pc = s.pc := rfl
@[simp] theorem State.setBp_mem (s : State) (x : List Word) : (s.setBp x).mem = s.mem := rfl
@[simp] theorem State.setBp_clk (s : State) (x : List Word) : (s.setBp x).clk = s.clk := rfl
@[simp] theorem State.setBp_ime (s : State) (x : List Word) : (s.setBp x).ime = s.ime := rfl
@[simp] theorem State.setBp_imeSched (s : State) (x : List Word) : (s.setBp x).imeSched = s.imeSched := rfl
@[simp] theorem State.setBp_run (s : State) (x : List Word) : (s.setBp x).run = s.run := rfl
@[simp] theorem State.setBp_bp (s : State) (x : List Word) : (s.setBp x).bp = x := rfl
@[simp] theorem State.setBp_dbgMode (s : State) (x : List Word) : (s.setBp x).dbgMode = s.dbgMode := rfl
@[simp] theorem State.setBp_params (s : State) (x : List Word) : (s.setBp x).params = s.params := rfl
@[simp] theorem State.setBp_irqIn (s : State) (x : List Word) : (s.setBp x).irqIn = s.irqIn := rfl
@[simp] theorem State.setBp_hostIn (s : State) (x : List Word) : (s.setBp x).hostIn = s.hostIn := rfl
@[simp] theorem State.setBp_exited (s : State) (x : List Word) : (s.setBp x).exited = s.exited := rfl
@[simp] theorem State.setBp_trace (s : State) (x : List Word) : (s.setBp x).trace = s.trace := rfl
@[simp] theorem State.setBp_ack (s : State) (x : List Word) : (s.setBp x).ack = s.ack := rfl
@[simp] theorem State.setBp_result (s : State) (x : List Word) : (s.setBp x).result = s.result := rfl
@[simp] theorem State.setBp_cycles (s : State) (x : List Word) : (s.setBp x).cycles = s.cycles := rfl

@[simp] theorem State.setDbgMode_regs (s : State) (x : DbgMode) : (s.setDbgMode x).regs = s.regs := rfl
@[simp] theorem State.setDbgMode_flags (s : State) (x : DbgMode) : (s.setDbgMode x).flags = s.flags := rfl
@[simp] theorem State.setDbgMode_sp (s : State) (x : DbgMode) : (s.setDbgMode x).sp = s.sp := rfl
@[simp] theorem State.setDbgMode_pc (s : State) (x : DbgMode) : (s.setDbgMode x).pc = s.pc := rfl
@[simp] theorem State.setDbgMode_mem (s : State) (x : DbgMode) : (s.setDbgMode x).mem = s.mem := rfl
@[simp] theorem State.setDbgMode_clk (s : State) (x : DbgMode) : (s.setDbgMode x).clk = s.clk := rfl
@[simp] theorem State.setDbgMode_ime (s : State) (x : DbgMode) : (s.setDbgMode x).ime = s.ime := rfl
@[simp] theorem State.setDbgMode_imeSched (s : State) (x : DbgMode) : (s.setDbgMode x).imeSched = s.imeSched := rfl
@[simp] theorem State.setDbgMode_run (s : State) (x : DbgMode) : (s.setDbgMode x).run = s.run := rfl
@[simp] theorem State.setDbgMode_bp (s : State) (x : DbgMode) : (s.setDbgMode x).bp = s.bp := rfl
@[simp] theorem State.setDbgMode_dbgMode (s : State) (x : DbgMode) : (s.setDbgMode x).dbgMode = x := rfl
@[simp] theorem State.setDbgMode_params (s : State) (x : DbgMode) : (s.setDbgMode x).params = s.params := rfl
@[simp] theorem State.setDbgMode_irqIn (s : State) (x : DbgMode) : (s.setDbgMode x).irqIn = s.irqIn := rfl
@[simp] theorem State.setDbgMode_hostIn (s : State) (x : DbgMode) : (s.setDbgMode x).hostIn = s.hostIn := rfl
@[simp] theorem State.setDbgMode_exited (s : State) (x : DbgMode) : (s.setDbgMode x).exited = s.exited := rfl
@[simp] theorem State.setDbgMode_trace (s : State) (x : DbgMode) : (s.setDbgMode x).trace = s.trace := rfl
@[simp] theorem State.setDbgMode_ack (s : State) (x : DbgMode) : (s.setDbgMode x).ack = s.ack := rfl
@[simp] theorem State.setDbgMode_result (s : State) (x : DbgMode) : (s.setDbgMode x).result = s.result := rfl
@[simp] theorem State.setDbgMode_cycles (s : State) (x : DbgMode) : (s.setDbgMode x).cycles = s.cycles := rfl

@[simp] theorem State.setIrqIn_regs (s : State) (x : Feed (Option Word)) : (s.setIrqIn x).regs = s.regs := rfl
@[simp] theorem State.setIrqIn_flags (s : State) (x : Feed (Option Word)) : (s.setIrqIn x).flags = s.flags := rfl
@[simp] theorem State.setIrqIn_sp (s : State) (x : Feed (Option Word)) : (s.setIrqIn x).sp = s.sp := rfl
@[simp] theorem State.setIrqIn_pc (s : State) (x : Feed (Option Word)) : (s.setIrqIn x).pc = s.pc := rfl
@[simp] theorem State.setIrqIn_mem (s : State) (x : Feed (Option Word)) : (s.setIrqIn x).mem = s.mem := rfl
@[simp] theorem State.setIrqIn_clk (s : State) (x : Feed (Option Word)) : (s.setIrqIn x).clk = s.clk := rfl
@[simp] theorem State.setIrqIn_ime (s : State) (x : Feed (Option Word)) : (s.setIrqIn x).ime = s.ime := rfl
@[simp] theorem State.setIrqIn_imeSched (s : State) (x : Feed (Option Word)) : (s.setIrqIn x).imeSched = s.imeSched := rfl
@[simp] theorem State.setIrqIn_run (s : State) (x : Feed (Option Word)) : (s.setIrqIn x).run = s.run := rfl
@[simp] theorem State.setIrqIn_bp (s : State) (x : Feed (Option Word)) : (s.setIrqIn x).bp = s.bp := rfl
@[simp] theorem State.setIrqIn_dbgMode (s : State) (x : Feed (Option Word)) : (s.setIrqIn x).dbgMode = s.dbgMode := rfl
@[simp] theorem State.setIrqIn_params (s : State) (x : Feed (Option Word)) : (s.setIrqIn x).params = s.params := rfl
@[simp] theorem State.setIrqIn_irqIn (s : State) (x : Feed (Option Word)) : (s.setIrqIn x).irqIn = x := rfl
@[simp] theorem State.setIrqIn_hostIn (s : State) (x : Feed (Option Word)) : (s.setIrqIn x).hostIn = s.hostIn := rfl
@[simp] theorem State.setIrqIn_exited (s : State) (x : Feed (Option Word)) : (s.setIrqIn x).exited = s.exited := rfl
@[simp] theorem State.setIrqIn_trace (s : State) (x : Feed (Option Word)) : (s.setIrqIn x).trace = s.trace := rfl
@[simp] theorem State.setIrqIn_ack (s : State) (x : Feed (Option Word)) : (s.setIrqIn x).ack = s.ack := rfl
@[simp] theorem State.setIrqIn_result (s : State) (x : Feed (Option Word)) : (s.setIrqIn x).result = s.result := rfl
@[simp] theorem State.setIrqIn_cycles (s : State) (x : Feed (Option Word)) : (s.setIrqIn x).cycles = s.cycles := rfl

@[simp] theorem State.setHostIn_regs (s : State) (x : Feed HostCmd) : (s.setHostIn x).regs = s.regs := rfl
@[simp] theorem State.setHostIn_flags (s : State) (x : Feed HostCmd) : (s.setHostIn x).flags = s.flags := rfl
@[simp] theorem State.setHostIn_sp (s : State) (x : Feed HostCmd) : (s.setHostIn x).sp = s.sp := rfl
@[simp] theorem State.setHostIn_pc (s : State) (x : Feed HostCmd) : (s.setHostIn x).pc = s.pc := rfl
@[simp] theorem State.setHostIn_mem (s : State) (x : Feed HostCmd) : (s.setHostIn x).mem = s.mem := rfl
@[simp] theorem State.setHostIn_clk (s : State) (x : Feed HostCmd) : (s.setHostIn x).clk = s.clk := rfl
@[simp] theorem State.setHostIn_ime (s : State) (x : Feed HostCmd) : (s.setHostIn x).ime = s.ime := rfl
@[simp] theorem State.setHostIn_imeSched (s : State) (x : Feed HostCmd) : (s.setHostIn x).imeSched = s.imeSched := rfl
@[simp] theorem State.setHostIn_run (s : State) (x : Feed HostCmd) : (s.setHostIn x).run = s.run := rfl
@[simp] theorem State.setHostIn_bp (s : State) (x : Feed HostCmd) : (s.setHostIn x).bp = s.bp := rfl
@[simp] theorem State.setHostIn_dbgMode (s : State) (x : Feed HostCmd) : (s.setHostIn x).dbgMode = s.dbgMode := rfl
@[simp] theorem State.setHostIn_params (s : State) (x : Feed HostCmd) : (s.setHostIn x).params = s.params := rfl
@[simp] theorem State.setHostIn_irqIn (s : State) (x : Feed HostCmd) : (s.setHostIn x).irqIn = s.irqIn := rfl
@[simp] theorem State.setHostIn_hostIn (s : State) (x : Feed HostCmd) : (s.setHostIn x).hostIn = x := rfl
@[simp] theorem State.setHostIn_exited (s : State) (x : Feed HostCmd) : (s.setHostIn x).exited = s.exited := rfl
@[simp] theorem State.setHostIn_trace (s : State) (x : Feed HostCmd) : (s.setHostIn x).trace = s.trace := rfl
@[simp] theorem State.setHostIn_ack (s : State) (x : Feed HostCmd) : (s.setHostIn x).ack = s.ack := rfl
@[simp] theorem State.setHostIn_result (s : State) (x : Feed HostCmd) : (s.setHostIn x).result = s.result := rfl
@[simp] theorem State.setHostIn_cycles (s : State) (x : Feed HostCmd) : (s.setHostIn x).cycles = s.cycles := rfl

@[simp] theorem State.setExited_regs (s : State) (x : Bool) : (s.setExited x).regs = s.regs := rfl
@[simp] theorem State.setExited_flags (s : State) (x : Bool) : (s.setExited x).flags = s.flags := rfl
@[simp] theorem State.setExited_sp (s : State) (x : Bool) : (s.setExited x).sp = s.sp := rfl
@[simp] theorem State.setExited_pc (s : State) (x : Bool) : (s.setExited x).pc = s.pc := rfl
@[simp] theorem State.setExited_mem (s : State) (x : Bool) : (s.setExited x).mem = s.mem := rfl
@[simp] theorem State.setExited_clk (s : State) (x : Bool) : (s.setExited x).clk = s.clk := rfl
@[simp] theorem State.setExited_ime (s : State) (x : Bool) : (s.setExited x).ime = s.ime := rfl
@[simp] theorem State.setExited_imeSched (s : State) (x : Bool) : (s.setExited x).imeSched = s.imeSched := rfl
@[simp] theorem State.setExited_run (s : State) (x : Bool) : (s.setExited x).run = s.run := rfl
@[simp] theorem State.setExited_bp (s : State) (x : Bool) : (s.setExited x).bp = s.bp := rfl
@[simp] theorem State.setExited_dbgMode (s : State) (x : Bool) : (s.setExited x).dbgMode = s.dbgMode := rfl
@[simp] theorem State.setExited_params (s : State) (x : Bool) : (s.setExited x).params = s.params := rfl
@[simp] theorem State.setExited_irqIn (s : State) (x : Bool) : (s.setExited x).irqIn = s.irqIn := rfl
@[simp] theorem State.setExited_hostIn (s : State) (x : Bool) : (s.setExited x).hostIn = s.hostIn := rfl
@[simp] theorem State.setExited_exited (s : State) (x : Bool) : (s.setExited x).exited = x := rfl
@[simp] theorem State.setExited_trace (s : State) (x : Bool) : (s.setExited x).trace = s.trace := rfl
@[simp] theorem State.setExited_ack (s : State) (x : Bool) : (s.setExited x).ack = s.ack := rfl
@[simp] theorem State.setExited_result (s : State) (x : Bool) : (s.setExited x).result = s.result := rfl
@[simp] theorem State.setExited_cycles (s : State) (x : Bool) : (s.setExited x).cycles = s.cycles := rfl

@[simp] theorem State.setTrace_regs (s : State) (x : List WriteEvent) : (s.setTrace x).regs = s.regs := rfl
@[simp] theorem State.setTrace_flags (s : State) (x : List WriteEvent) : (s.setTrace x).flags = s.flags := rfl
@[simp] theorem State.setTrace_sp (s : State) (x : List WriteEvent) : (s.setTrace x).sp = s.sp := rfl
@[simp] theorem State.setTrace_pc (s : State) (x : List WriteEvent) : (s.setTrace x).pc = s.pc := rfl
@[simp] theorem State.setTrace_mem (s : State) (x : List WriteEvent) : (s.setTrace x).mem = s.mem := rfl
@[simp] theorem State.setTrace_clk (s : State) (x : List WriteEvent) : (s.setTrace x).clk = s.clk := rfl
@[simp] theorem State.setTrace_ime (s : State) (x : List WriteEvent) : (s.setTrace x).ime = s.ime := rfl
@[simp] theorem State.setTrace_imeSched (s : State) (x : List WriteEvent) : (s.setTrace x).imeSched = s.imeSched := rfl
@[simp] theorem State.setTrace_run (s : State) (x : List WriteEvent) : (s.setTrace x).run = s.run := rfl
@[simp] theorem State.setTrace_bp (s : State) (x : List WriteEvent) : (s.setTrace x).bp = s.bp := rfl
@[simp] theorem State.setTrace_dbgMode (s : State) (x : List WriteEvent) : (s.setTrace x).dbgMode = s.dbgMode := rfl
@[simp] theorem State.setTrace_params (s : State) (x : List WriteEvent) : (s.setTrace x).params = s.params := rfl
@[simp] theorem State.setTrace_irqIn (s : State) (x : List WriteEvent) : (s.setTrace x).irqIn = s.irqIn := rfl
@[simp] theorem State.setTrace_hostIn (s : State) (x : List WriteEvent) : (s.setTrace x).hostIn = s.hostIn := rfl
@[simp] theorem State.setTrace_exited (s : State) (x : List WriteEvent) : (s.setTrace x).exited = s.exited := rfl
@[simp] theorem State.setTrace_trace (s : State) (x : List WriteEvent) : (s.setTrace x).trace = x := rfl
@[simp] theorem State.setTrace_ack (s : State) (x : List WriteEvent) : (s.setTrace x).ack = s.ack := rfl
@[simp] theorem State.setTrace_result (s : State) (x : List WriteEvent) : (s.setTrace x).result = s.result := rfl
@[simp] theorem State.setTrace_cycles (s : State) (x : List WriteEvent) : (s.setTrace x).cycles = s.cycles := rfl

@[simp] theorem State.setAck_regs (s : State) (x : Option Word) : (s.setAck x).regs = s.regs := rfl
@[simp] theorem State.setAck_flags (s : State) (x : Option Word) : (s.setAck x).flags = s.flags := rfl
@[simp] theorem State.setAck_sp (s : State) (x : Option Word) : (s.setAck x).sp = s.sp := rfl
@[simp] theorem State.setAck_pc (s : State) (x : Option Word) : (s.setAck x).pc = s.pc := rfl
@[simp] theorem State.setAck_mem (s : State) (x : Option Word) : (s.setAck x).mem = s.mem := rfl
@[simp] theorem State.setAck_clk (s : State) (x : Option Word) : (s.setAck x).clk = s.clk := rfl
@[simp] theorem State.setAck_ime (s : State) (x : Option Word) : (s.setAck x).ime = s.ime := rfl
@[simp] theorem State.setAck_imeSched (s : State) (x : Option Word) : (s.setAck x).imeSched = s.imeSched := rfl
@[simp] theorem State.setAck_run (s : State) (x : Option Word) : (s.setAck x).run = s.run := rfl
@[simp] theorem State.setAck_bp (s : State) (x : Option Word) : (s.setAck x).bp = s.bp := rfl
@[simp] theorem State.setAck_dbgMode (s : State) (x : Option Word) : (s.setAck x).dbgMode = s.dbgMode := rfl
@[simp] theorem State.setAck_params (s : State) (x : Option Word) : (s.setAck x).params = s.params := rfl
@[simp] theorem State.setAck_irqIn (s : State) (x : Option Word) : (s.setAck x).irqIn = s.irqIn := rfl
@[simp] theorem State.setAck_hostIn (s : State) (x : Option Word) : (s.setAck x).hostIn = s.hostIn := rfl
@[simp] theorem State.setAck_exited (s : State) (x : Option Word) : (s.setAck x).exited = s.exited := rfl
@[simp] theorem State.setAck_trace (s : State) (x : Option Word) : (s.setAck x).trace = s.trace := rfl
@[simp] theorem State.setAck_ack (s : State) (x : Option Word) : (s.setAck x).ack = x := rfl
@[simp] theorem State.setAck_result (s : State) (x : Option Word) : (s.setAck x).result = s.result := rfl
@[simp] theorem State.setAck_cycles (s : State) (x : Option Word) : (s.setAck x).cycles = s.cycles := rfl

@[simp] theorem State.report_regs (s : State) (x : StepResult) (n : Nat) : (s.report x n).regs = s.regs := rfl
@[simp] theorem State.report_flags (s : State) (x : StepResult) (n : Nat) : (s.report x n).flags = s.flags := rfl
@[simp] theorem State.report_sp (s : State) (x : StepResult) (n : Nat) : (s.report x n).sp = s.sp := rfl
@[simp] theorem State.report_pc (s : State) (x : StepResult) (n : Nat) : (s.report x n).pc = s.pc := rfl
@[simp] theorem State.report_mem (s : State) (x : StepResult) (n : Nat) : (s.report x n).mem = s.mem := rfl
@[simp] theorem State.report_clk (s : State) (x : StepResult) (n : Nat) : (s.report x n).clk = s.clk := rfl
@[simp] theorem State.report_ime (s : State) (x : StepResult) (n : Nat) : (s.report x n).ime = s.ime := rfl
@[simp] theorem State.report_imeSched (s : State) (x : StepResult) (n : Nat) : (s.report x n).imeSched = s.imeSched := rfl
@[simp] theorem State.report_run (s : State) (x : StepResult) (n : Nat) : (s.report x n).run = s.run := rfl
@[simp] theorem State.report_bp (s : State) (x : StepResult) (n : Nat) : (s.report x n).bp = s.bp := rfl
@[simp] theorem State.report_dbgMode (s : State) (x : StepResult) (n : Nat) : (s.report x n).dbgMode = s.dbgMode := rfl
@[simp] theorem State.report_params (s : State) (x : StepResult) (n : Nat) : (s.report x n).params = s.params := rfl
@[simp] theorem State.report_irqIn (s : State) (x : StepResult) (n : Nat) : (s.report x n).irqIn = s.irqIn := rfl
@[simp] theorem State.report_hostIn (s : State) (x : StepResult) (n : Nat) : (s.report x n).hostIn = s.hostIn := rfl
@[simp] theorem State.report_exited (s : State) (x : StepResult) (n : Nat) : (s.report x n).exited = s.exited := rfl
@[simp] theorem State.report_trace (s : State) (x : StepResult) (n : Nat) : (s.report x n).trace = s.trace := rfl
@[simp] theorem State.report_ack (s : State) (x : StepResult) (n : Nat) : (s.report x n).ack = s.ack := rfl
@[simp] theorem State.report_result (s : State) (x : StepResult) (n : Nat) : (s.report x n).result = x := rfl
@[simp] theorem State.report_cycles (s : State) (x : StepResult) (n : Nat) : (s.report x n).cycles = n := rfl

@[simp] theorem State.setReg_regs (s : State) (r : Reg) (v : Byte) : (s.setReg r v).regs = s.regs.set r v := rfl
@[simp] theorem State.setReg_flags (s : State) (r : Reg) (v : Byte) : (s.setReg r v).flags = s.flags := rfl
@[simp] theorem State.setReg_sp (s : State) (r : Reg) (v : Byte) : (s.setReg r v).sp = s.sp := rfl
@[simp] theorem State.setReg_pc (s : State) (r : Reg) (v : Byte) : (s.setReg r v).pc = s.pc := rfl
@[simp] theorem State.setReg_mem (s : State) (r : Reg) (v : Byte) : (s.setReg r v).mem = s.mem := rfl
@[simp] theorem State.setReg_clk (s : State) (r : Reg) (v : Byte) : (s.setReg r v).clk = s.clk := rfl
@[simp] theorem State.setReg_ime (s : State) (r : Reg) (v : Byte) : (s.setReg r v).ime = s.ime := rfl
@[simp] theorem State.setReg_imeSched (s : State) (r : Reg) (v : Byte) : (s.setReg r v).imeSched = s.imeSched := rfl
@[simp] theorem State.setReg_run (s : State) (r : Reg) (v : Byte) : (s.setReg r v).run = s.run := rfl
@[simp] theorem State.setReg_bp (s : State) (r : Reg) (v : Byte) : (s.setReg r v).bp = s.bp := rfl
@[simp] theorem State.setReg_dbgMode (s : State) (r : Reg) (v : Byte) : (s.setReg r v).dbgMode = s.dbgMode := rfl
@[simp] theorem State.setReg_params (s : State) (r : Reg) (v : Byte) : (s.setReg r v).params = s.params := rfl
@[simp] theorem State.setReg_irqIn (s : State) (r : Reg) (v : Byte) : (s.setReg r v).irqIn = s.irqIn := rfl
@[simp] theorem State.setReg_hostIn (s : State) (r : Reg) (v : Byte) : (s.setReg r v).hostIn = s.hostIn := rfl
@[simp] theorem State.setReg_exited (s : State) (r : Reg) (v : Byte) : (s.setReg r v).exited = s.exited := rfl
@[simp] theorem State.setReg_trace (s : State) (r : Reg) (v : Byte) : (s.setReg r v).trace = s.trace := rfl
@[simp] theorem State.setReg_ack (s : State) (r : Reg) (v : Byte) : (s.setReg r v).ack = s.ack := rfl
@[simp] theorem State.setReg_result (s : State) (r : Reg) (v : Byte) : (s.setReg r v).result = s.result := rfl
@[simp] theorem State.setReg_cycles (s : State) (r : Reg) (v : Byte) : (s.setReg r v).cycles = s.cycles := rfl

@[simp] theorem State.setAf_regs (s : State) (v : Word) : (s.setAf v).regs = s.regs.set .a (hiByte v) := by simp [State.setAf]
@[simp] theorem State.setAf_flags (s : State) (v : Word) : (s.setAf v).flags = Flags.ofByte (loByte v) := by simp [State.setAf]
@[simp] theorem State.setAf_sp (s : State) (v : Word) : (s.setAf v).sp = s.sp := by simp [State.setAf]
@[simp] theorem State.setAf_pc (s : State) (v : Word) : (s.setAf v).pc = s.pc := by simp [State.setAf]
@[simp] theorem State.setAf_mem (s : State) (v : Word) : (s.setAf v).mem = s.mem := by simp [State.setAf]
@[simp] theorem State.setAf_clk (s : State) (v : Word) : (s.setAf v).clk = s.clk := by simp [State.setAf]
@[simp] theorem State.setAf_ime (s : State) (v : Word) : (s.setAf v).ime = s.ime := by simp [State.setAf]
@[simp] theorem State.setAf_imeSched (s : State) (v : Word) : (s.setAf v).imeSched = s.imeSched := by simp [State.setAf]
@[simp] theorem State.setAf_run (s : State) (v : Word) : (s.setAf v).run = s.run := by simp [State.setAf]
@[simp] theorem State.setAf_bp (s : State) (v : Word) : (s.setAf v).bp = s.bp := by simp [State.setAf]
@[simp] theorem State.setAf_dbgMode (s : State) (v : Word) : (s.setAf v).dbgMode = s.dbgMode := by simp [State.setAf]
@[simp] theorem State.setAf_params (s : State) (v : Word) : (s.setAf v).params = s.params := by simp [State.setAf]
@[simp] theorem State.setAf_irqIn (s : State) (v : Word) : (s.setAf v).irqIn = s.irqIn := by simp [State.setAf]
@[simp] theorem State.setAf_hostIn (s : State) (v : Word) : (s.setAf v).hostIn = s.hostIn := by simp [State.setAf]
@[simp] theorem State.setAf_exited (s : State) (v : Word) : (s.setAf v).exited = s.exited := by simp [State.setAf]
@[simp] theorem State.setAf_trace (s : State) (v : Word) : (s.setAf v).trace = s.trace := by simp [State.setAf]
@[simp] theorem State.setAf_ack (s : State) (v : Word) : (s.setAf v).ack = s.ack := by simp [State.setAf]
@[simp] theorem State.setAf_result (s : State) (v : Word) : (s.setAf v).result = s.result := by simp [State.setAf]
@[simp] theorem State.setAf_cycles (s : State) (v : Word) : (s.setAf v).cycles = s.cycles := by simp [State.setAf]

@[simp] theorem State.writeByte_regs (s : State) (a : Word) (v : Byte) : (s.writeByte a v).regs = s.regs := by simp [State.writeByte]
@[simp] theorem State.writeByte_flags (s : State) (a : Word) (v : Byte) : (s.writeByte a v).flags = s.flags := by simp [State.writeByte]
@[simp] theorem State.writeByte_sp (s : State) (a : Word) (v : Byte) : (s.writeByte a v).sp = s.sp := by simp [State.writeByte]
@[simp] theorem State.writeByte_pc (s : State) (a : Word) (v : Byte) : (s.writeByte a v).pc = s.pc := by simp [State.writeByte]
@[simp] theorem State.writeByte_mem (s : State) (a : Word) (v : Byte) : (s.writeByte a v).mem = s.mem.write a.toNat v := by simp [State.writeByte]
@[simp] theorem State.writeByte_clk (s : State) (a : Word) (v : Byte) : (s.writeByte a v).clk = s.clk := by simp [State.writeByte]
@[simp] theorem State.writeByte_ime (s : State) (a : Word) (v : Byte) : (s.writeByte a v).ime = s.ime := by simp [State.writeByte]
@[simp] theorem State.writeByte_imeSched (s : State) (a : Word) (v : Byte) : (s.writeByte a v).imeSched = s.imeSched := by simp [State.writeByte]
@[simp] theorem State.writeByte_run (s : State) (a : Word) (v : Byte) : (s.writeByte a v).run = s.run := by simp [State.writeByte]
@[simp] theorem State.writeByte_bp (s : State) (a : Word) (v : Byte) : (s.writeByte a v).bp = s.bp := by simp [State.writeByte]
@[simp] theorem State.writeByte_dbgMode (s : State) (a : Word) (v : Byte) : (s.writeByte a v).dbgMode = s.dbgMode := by simp [State.writeByte]
@[simp] theorem State.writeByte_params (s : State) (a : Word) (v : Byte) : (s.writeByte a v).params = s.params := by simp [State.writeByte]
@[simp] theorem State.writeByte_irqIn (s : State) (a : Word) (v : Byte) : (s.writeByte a v).irqIn = s.irqIn := by simp [State.writeByte]
@[simp] theorem State.writeByte_hostIn (s : State) (a : Word) (v : Byte) : (s.writeByte a v).hostIn = s.hostIn := by simp [State.writeByte]
@[simp] theorem State.writeByte_exited (s : State) (a : Word) (v : Byte) : (s.writeByte a v).exited = s.exited := by simp [State.writeByte]
@[simp] theorem State.writeByte_trace (s : State) (a : Word) (v : Byte) : (s.writeByte a v).trace = ⟨a, v, regionOf a⟩ :: s.trace := by simp [State.writeByte]
@[simp] theorem State.writeByte_ack (s : State) (a : Word) (v : Byte) : (s.writeByte a v).ack = s.ack := by simp [State.writeByte]
@[simp] theorem State.writeByte_result (s : State) (a : Word) (v : Byte) : (s.writeByte a v).result = s.result := by simp [State.writeByte]
@[simp] theorem State.writeByte_cycles (s : State) (a : Word) (v : Byte) : (s.writeByte a v).cycles = s.cycles := by simp [State.writeByte]

@[simp] theorem State.writeWord_regs (s : State) (a : Word) (v : Word) : (s.writeWord a v).regs = s.regs := by simp [State.writeWord]
@[simp] theorem State.writeWord_flags (s : State) (a : Word) (v : Word) : (s.writeWord a v).flags = s.flags := by simp [State.writeWord]
@[simp] theorem State.writeWord_sp (s : State) (a : Word) (v : Word) : (s.writeWord a v).sp = s.sp := by simp [State.writeWord]
@[simp] theorem State.writeWord_pc (s : State) (a : Word) (v : Word) : (s.writeWord a v).pc = s.pc := by simp [State.writeWord]
@[simp] theorem State.writeWord_mem (s : State) (a : Word) (v : Word) : (s.writeWord a v).mem = (s.mem.write a.toNat (loByte v)).write (a + 1).toNat (hiByte v) := by simp [State.writeWord]
@[simp] theorem State.writeWord_clk (s : State) (a : Word) (v : Word) : (s.writeWord a v).clk = s.clk := by simp [State.writeWord]
@[simp] theorem State.writeWord_ime (s : State) (a : Word) (v : Word) : (s.writeWord a v).ime = s.ime := by simp [State.writeWord]
@[simp] theorem State.writeWord_imeSched (s : State) (a : Word) (v : Word) : (s.writeWord a v).imeSched = s.imeSched := by simp [State.writeWord]
@[simp] theorem State.writeWord_run (s : State) (a : Word) (v : Word) : (s.writeWord a v).run = s.run := by simp [State.writeWord]
@[simp] theorem State.writeWord_bp (s : State) (a : Word) (v : Word) : (s.writeWord a v).bp = s.bp := by simp [State.writeWord]
@[simp] theorem State.writeWord_dbgMode (s : State) (a : Word) (v : Word) : (s.writeWord a v).dbgMode = s.dbgMode := by simp [State.writeWord]
@[simp] theorem State.writeWord_params (s : State) (a : Word) (v : Word) : (s.writeWord a v).params = s.params := by simp [State.writeWord]
@[simp] theorem State.writeWord_irqIn (s : State) (a : Word) (v : Word) : (s.writeWord a v).irqIn = s.irqIn := by simp [State.writeWord]
@[simp] theorem State.writeWord_hostIn (s : State) (a : Word) (v : Word) : (s.writeWord a v).hostIn = s.hostIn := by simp [State.writeWord]
@[simp] theorem State.writeWord_exited (s : State) (a : Word) (v : Word) : (s.writeWord a v).exited = s.exited := by simp [State.writeWord]
@[simp] theorem State.writeWord_trace (s : State) (a : Word) (v : Word) : (s.writeWord a v).trace = ⟨a + 1, hiByte v, regionOf (a + 1)⟩ :: ⟨a, loByte v, regionOf a⟩ :: s.trace := by simp [State.writeWord]
@[simp] theorem State.writeWord_ack (s : State) (a : Word) (v : Word) : (s.writeWord a v).ack = s.ack := by simp [State.writeWord]
@[simp] theorem State.writeWord_result (s : State) (a : Word) (v : Word) : (s.writeWord a v).result = s.result := by simp [State.writeWord]
@[simp] theorem State.writeWord_cycles (s : State) (a : Word) (v : Word) : (s.writeWord a v).cycles = s.cycles := by simp [State.writeWord]

@[simp] theorem State.push16_regs (s : State) (v : Word) : (s.push16 v).regs = s.regs := by simp [State.push16]
@[simp] theorem State.push16_flags (s : State) (v : Word) : (s.push16 v).flags = s.flags := by simp [State.push16]
@[simp] theorem State.push16_sp (s : State) (v : Word) : (s.push16 v).sp = s.sp - 2 := by simp [State.push16]
@[simp] theorem State.push16_pc (s : State) (v : Word) : (s.push16 v).pc = s.pc := by simp [State.push16]
@[simp] theorem State.push16_mem (s : State) (v : Word) : (s.push16 v).mem = (s.mem.write (s.sp - 2 + 1).toNat (hiByte v)).write (s.sp - 2).toNat (loByte v) := by simp [State.push16]
@[simp] theorem State.push16_clk (s : State) (v : Word) : (s.push16 v).clk = s.clk := by simp [State.push16]
@[simp] theorem State.push16_ime (s : State) (v : Word) : (s.push16 v).ime = s.ime := by simp [State.push16]
@[simp] theorem State.push16_imeSched (s : State) (v : Word) : (s.push16 v).imeSched = s.imeSched := by simp [State.push16]
@[simp] theorem State.push16_run (s : State) (v : Word) : (s.push16 v).run = s.run := by simp [State.push16]
@[simp] theorem State.push16_bp (s : State) (v : Word) : (s.push16 v).bp = s.bp := by simp [State.push16]
@[simp] theorem State.push16_dbgMode (s : State) (v : Word) : (s.push16 v).dbgMode = s.dbgMode := by simp [State.push16]
@[simp] theorem State.push16_params (s : State) (v : Word) : (s.push16 v).params = s.params := by simp [State.push16]
@[simp] theorem State.push16_irqIn (s : State) (v : Word) : (s.push16 v).irqIn = s.irqIn := by simp [State.push16]
@[simp] theorem State.push16_hostIn (s : State) (v : Word) : (s.push16 v).hostIn = s.hostIn := by simp [State.push16]
@[simp] theorem State.push16_exited (s : State) (v : Word) : (s.push16 v).exited = s.exited := by simp [State.push16]
@[simp] theorem State.push16_trace (s : State) (v : Word) : (s.push16 v).trace = ⟨s.sp - 2, loByte v, regionOf (s.sp - 2)⟩ :: ⟨s.sp - 2 + 1, hiByte v, regionOf (s.sp - 2 + 1)⟩ :: s.trace := by simp [State.push16]
@[simp] theorem State.push16_ack (s : State) (v : Word) : (s.push16 v).ack = s.ack := by simp [State.push16]
@[simp] theorem State.push16_result (s : State) (v : Word) : (s.push16 v).result = s.result := by simp [State.push16]
@[simp] theorem State.push16_cycles (s : State) (v : Word) : (s.push16 v).cycles = s.cycles := by simp [State.push16]

@[simp] theorem State.popped_regs (s : State) : (s.popped).regs = s.regs := rfl
@[simp] theorem State.popped_flags (s : State) : (s.popped).flags = s.flags := rfl
@[simp] theorem State.popped_sp (s : State) : (s.popped).sp = s.sp + 2 := rfl
@[simp] theorem State.popped_pc (s : State) : (s.popped).pc = s.pc := rfl
@[simp] theorem State.popped_mem (s : State) : (s.popped).mem = s.mem := rfl
@[simp] theorem State.popped_clk (s : State) : (s.popped).clk = s.clk := rfl
@[simp] theorem State.popped_ime (s : State) : (s.popped).ime = s.ime := rfl
@[simp] theorem State.popped_imeSched (s : State) : (s.popped).imeSched = s.imeSched := rfl
@[simp] theorem State.popped_run (s : State) : (s.popped).run = s.run := rfl
@[simp] theorem State.popped_bp (s : State) : (s.popped).bp = s.bp := rfl
@[simp] theorem State.popped_dbgMode (s : State) : (s.popped).dbgMode = s.dbgMode := rfl
@[simp] theorem State.popped_params (s : State) : (s.popped).params = s.params := rfl
@[simp] theorem State.popped_irqIn (s : State) : (s.popped).irqIn = s.irqIn := rfl
@[simp] theorem State.popped_hostIn (s : State) : (s.popped).hostIn = s.hostIn := rfl
@[simp] theorem State.popped_exited (s : State) : (s.popped).exited = s.exited := rfl
@[simp] theorem State.popped_trace (s : State) : (s.popped).trace = s.trace := rfl
@[simp] theorem State.popped_ack (s : State) : (s.popped).ack = s.ack := rfl
@[simp] theorem State.popped_result (s : State) : (s.popped).result = s.result := rfl
@[simp] theorem State.popped_cycles (s : State) : (s.popped).cycles = s.cycles := rfl

@[simp] theorem State.advance_regs (s : State) (n : Nat) : (s.advance n).regs = s.regs := rfl
@[simp] theorem State.advance_flags (s : State) (n : Nat) : (s.advance n).flags = s.flags := rfl
@[simp] theorem State.advance_sp (s : State) (n : Nat) : (s.advance n).sp = s.sp := rfl
@[simp] theorem State.advance_pc (s : State) (n : Nat) : (s.advance n).pc = s.pc + BitVec.ofNat 16 n := rfl
@[simp] theorem State.advance_mem (s : State) (n : Nat) : (s.advance n).mem = s.mem := rfl
@[simp] theorem State.advance_clk (s : State) (n : Nat) : (s.advance n).clk = s.clk := rfl
@[simp] theorem State.advance_ime (s : State) (n : Nat) : (s.advance n).ime = s.ime := rfl
@[simp] theorem State.advance_imeSched (s : State) (n : Nat) : (s.advance n).imeSched = s.imeSched := rfl
@[simp] theorem State.advance_run (s : State) (n : Nat) : (s.advance n).run = s.run := rfl
@[simp] theorem State.advance_bp (s : State) (n : Nat) : (s.advance n).bp = s.bp := rfl
@[simp] theorem State.advance_dbgMode (s : State) (n : Nat) : (s.advance n).dbgMode = s.dbgMode := rfl
@[simp] theorem State.advance_params (s : State) (n : Nat) : (s.advance n).params = s.params := rfl
@[simp] theorem State.advance_irqIn (s : State) (n : Nat) : (s.advance n).irqIn = s.irqIn := rfl
@[simp] theorem State.advance_hostIn (s : State) (n : Nat) : (s.advance n).hostIn = s.hostIn := rfl
@[simp] theorem State.advance_exited (s : State) (n : Nat) : (s.advance n).exited = s.exited := rfl
@[simp] theorem State.advance_trace (s : State) (n : Nat) : (s.advance n).trace = s.trace := rfl
@[simp] theorem State.advance_ack (s : State) (n : Nat) : (s.advance n).ack = s.ack := rfl
@[simp] theorem State.advance_result (s : State) (n : Nat) : (s.advance n).result = s.result := rfl
@[simp] theorem State.advance_cycles (s : State) (n : Nat) : (s.advance n).cycles = s.cycles := rfl

@[simp] theorem State.addClk_regs (s : State) (n : Nat) : (s.addClk n).regs = s.regs := rfl
@[simp] theorem State.addClk_flags (s : State) (n : Nat) : (s.addClk n).flags = s.flags := rfl
@[simp] theorem State.addClk_sp (s : State) (n : Nat) : (s.addClk n).sp = s.sp := rfl
@[simp] theorem State.addClk_pc (s : State) (n : Nat) : (s.addClk n).pc = s.pc := rfl
@[simp] theorem State.addClk_mem (s : State) (n : Nat) : (s.addClk n).mem = s.mem := rfl
@[simp] theorem State.addClk_clk (s : State) (n : Nat) : (s.addClk n).clk = s.clk + n := rfl
@[simp] theorem State.addClk_ime (s : State) (n : Nat) : (s.addClk n).ime = s.ime := rfl
@[simp] theorem State.addClk_imeSched (s : State) (n : Nat) : (s.addClk n).imeSched = s.imeSched := rfl
@[simp] theorem State.addClk_run (s : State) (n : Nat) : (s.addClk n).run = s.run := rfl
@[simp] theorem State.addClk_bp (s : State) (n : Nat) : (s.addClk n).bp = s.bp := rfl
@[simp] theorem State.addClk_dbgMode (s : State) (n : Nat) : (s.addClk n).dbgMode = s.dbgMode := rfl
@[simp] theorem State.addClk_params (s : State) (n : Nat) : (s.addClk n).params = s.params := rfl
@[simp] theorem State.addClk_irqIn (s : State) (n : Nat) : (s.addClk n).irqIn = s.irqIn := rfl
@[simp] theorem State.addClk_hostIn (s : State) (n : Nat) : (s.addClk n).hostIn = s.hostIn := rfl
@[simp] theorem State.addClk_exited (s : State) (n : Nat) : (s.addClk n).exited = s.exited := rfl
@[simp] theorem State.addClk_trace (s : State) (n : Nat) : (s.addClk n).trace = s.trace := rfl
@[simp] theorem State.addClk_ack (s : State) (n : Nat) : (s.addClk n).ack = s.ack := rfl
@[simp] theorem State.addClk_result (s : State) (n : Nat) : (s.addClk n).result = s.result := rfl
@[simp] theorem State.addClk_cycles (s : State) (n : Nat) : (s.addClk n).cycles = s.cycles := rfl

@[simp] theorem State.raise_regs (s : State) (x : Fault) : (s.raise x).regs = s.regs := rfl
@[simp] theorem State.raise_flags (s : State) (x : Fault) : (s.raise x).flags = s.flags := rfl
@[simp] theorem State.raise_sp (s : State) (x : Fault) : (s.raise x).sp = s.sp := rfl
@[simp] theorem State.raise_pc (s : State) (x : Fault) : (s.raise x).pc = s.pc := rfl
@[simp] theorem State.raise_mem (s : State) (x : Fault) : (s.raise x).mem = s.mem := rfl
@[simp] theorem State.raise_clk (s : State) (x : Fault) : (s.raise x).clk = s.clk := rfl
@[simp] theorem State.raise_ime (s : State) (x : Fault) : (s.raise x).ime = s.ime := rfl
@[simp] theorem State.raise_imeSched (s : State) (x : Fault) : (s.raise x).imeSched = s.imeSched := rfl
@[simp] theorem State.raise_run (s : State) (x : Fault) : (s.raise x).run = .faulted x := rfl
@[simp] theorem State.raise_bp (s : State) (x : Fault) : (s.raise x).bp = s.bp := rfl
@[simp] theorem State.raise_dbgMode (s : State) (x : Fault) : (s.raise x).dbgMode = s.dbgMode := rfl
@[simp] theorem State.raise_params (s : State) (x : Fault) : (s.raise x).params = s.params := rfl
@[simp] theorem State.raise_irqIn (s : State) (x : Fault) : (s.raise x).irqIn = s.irqIn := rfl
@[simp] theorem State.raise_hostIn (s : State) (x : Fault) : (s.raise x).hostIn = s.hostIn := rfl
@[simp] theorem State.raise_exited (s : State) (x : Fault) : (s.raise x).exited = s.exited := rfl
@[simp] theorem State.raise_trace (s : State) (x : Fault) : (s.raise x).trace = s.trace := rfl
@[simp] theorem State.raise_ack (s : State) (x : Fault) : (s.raise x).ack = s.ack := rfl
@[simp] theorem State.raise_result (s : State) (x : Fault) : (s.raise x).result = s.result := rfl
@[simp] theorem State.raise_cycles (s : State) (x : Fault) : (s.raise x).cycles = s.cycles := rfl

@[simp] theorem State.enterInterrupt_regs (s : State) (v : Word) : (s.enterInterrupt v).regs = s.regs := by simp [State.enterInterrupt]
@[simp] theorem State.enterInterrupt_flags (s : State) (v : Word) : (s.enterInterrupt v).flags = s.flags := by simp [State.enterInterrupt]
@[simp] theorem State.enterInterrupt_sp (s : State) (v : Word) : (s.enterInterrupt v).sp = s.sp - 2 := by simp [State.enterInterrupt]
@[simp] theorem State.enterInterrupt_pc (s : State) (v : Word) : (s.enterInterrupt v).pc = v := by simp [State.enterInterrupt]
@[simp] theorem State.enterInterrupt_mem (s : State) (v : Word) : (s.enterInterrupt v).mem = (s.push16 s.pc).mem := by simp [State.enterInterrupt]
@[simp] theorem State.enterInterrupt_clk (s : State) (v : Word) : (s.enterInterrupt v).clk = s.clk + s.params.intCycles := by simp [State.enterInterrupt]
@[simp] theorem State.enterInterrupt_ime (s : State) (v : Word) : (s.enterInterrupt v).ime = false := by simp [State.enterInterrupt]
@[simp] theorem State.enterInterrupt_imeSched (s : State) (v : Word) : (s.enterInterrupt v).imeSched = false := by simp [State.enterInterrupt]
@[simp] theorem State.enterInterrupt_run (s : State) (v : Word) : (s.enterInterrupt v).run = s.run := by simp [State.enterInterrupt]
@[simp] theorem State.enterInterrupt_bp (s : State) (v : Word) : (s.enterInterrupt v).bp = s.bp := by simp [State.enterInterrupt]
@[simp] theorem State.enterInterrupt_dbgMode (s : State) (v : Word) : (s.enterInterrupt v).dbgMode = s.dbgMode := by simp [State.enterInterrupt]
@[simp] theorem State.enterInterrupt_params (s : State) (v : Word) : (s.enterInterrupt v).params = s.params := by simp [State.enterInterrupt]
@[simp] theorem State.enterInterrupt_irqIn (s : State) (v : Word) : (s.enterInterrupt v).irqIn = s.irqIn := by simp [State.enterInterrupt]
@[simp] theorem State.enterInterrupt_hostIn (s : State) (v : Word) : (s.enterInterrupt v).hostIn = s.hostIn := by simp [State.enterInterrupt]
@[simp] theorem State.enterInterrupt_exited (s : State) (v : Word) : (s.enterInterrupt v).exited = s.exited := by simp [State.enterInterrupt]
@[simp] theorem State.enterInterrupt_trace (s : State) (v : Word) : (s.enterInterrupt v).trace = (s.push16 s.pc).trace := by simp [State.enterInterrupt]
@[simp] theorem State.enterInterrupt_ack (s : State) (v : Word) : (s.enterInterrupt v).ack = some v := by simp [State.enterInterrupt]
@[simp] theorem State.enterInterrupt_result (s : State) (v : Word) : (s.enterInterrupt v).result = s.result := by simp [State.enterInterrupt]
@[simp] theorem State.enterInterrupt_cycles (s : State) (v : Word) : (s.enterInterrupt v).cycles = s.cycles := by simp [State.enterInterrupt]

@[simp] theorem State.returnInterrupt_regs (s : State) : (s.returnInterrupt).regs = s.regs := by simp [State.returnInterrupt]
@[simp] theorem State.returnInterrupt_flags (s : State) : (s.returnInterrupt).flags = s.flags := by simp [State.returnInterrupt]
@[simp] theorem State.returnInterrupt_sp (s : State) : (s.returnInterrupt).sp = s.sp + 2 := by simp [State.returnInterrupt]
@[simp] theorem State.returnInterrupt_pc (s : State) : (s.returnInterrupt).pc = s.popValue := by simp [State.returnInterrupt]
@[simp] theorem State.returnInterrupt_mem (s : State) : (s.returnInterrupt).mem = s.mem := by simp [State.returnInterrupt]
@[simp] theorem State.returnInterrupt_clk (s : State) : (s.returnInterrupt).clk = s.clk := by simp [State.returnInterrupt]
@[simp] theorem State.returnInterrupt_ime (s : State) : (s.returnInterrupt).ime = true := by simp [State.returnInterrupt]
@[simp] theorem State.returnInterrupt_imeSched (s : State) : (s.returnInterrupt).imeSched = false := by simp [State.returnInterrupt]
@[simp] theorem State.returnInterrupt_run (s : State) : (s.returnInterrupt).run = s.run := by simp [State.returnInterrupt]
@[simp] theorem State.returnInterrupt_bp (s : State) : (s.returnInterrupt).bp = s.bp := by simp [State.returnInterrupt]
@[simp] theorem State.returnInterrupt_dbgMode (s : State) : (s.returnInterrupt).dbgMode = s.dbgMode := by simp [State.returnInterrupt]
@[simp] theorem State.returnInterrupt_params (s : State) : (s.returnInterrupt).params = s.params := by simp [State.returnInterrupt]
@[simp] theorem State.returnInterrupt_irqIn (s : State) : (s.returnInterrupt).irqIn = s.irqIn := by simp [State.returnInterrupt]
@[simp] theorem State.returnInterrupt_hostIn (s : State) : (s.returnInterrupt).hostIn = s.hostIn := by simp [State.returnInterrupt]
@[simp] theorem State.returnInterrupt_exited (s : State) : (s.returnInterrupt).exited = s.exited := by simp [State.returnInterrupt]
@[simp] theorem State.returnInterrupt_trace (s : State) : (s.returnInterrupt).trace = s.trace := by simp [State.returnInterrupt]
@[simp] theorem State.returnInterrupt_ack (s : State) : (s.returnInterrupt).ack = s.ack := by simp [State.returnInterrupt]
@[simp] theorem State.returnInterrupt_result (s : State) : (s.returnInterrupt).result = s.result := by simp [State.returnInterrupt]
@[simp] theorem State.returnInterrupt_cycles (s : State) : (s.returnInterrupt).cycles = s.cycles := by simp [State.returnInterrupt]

@[simp] theorem State.dropSample_regs (s : State) : (s.dropSample).regs = s.regs := rfl
@[simp] theorem State.dropSample_flags (s : State) : (s.dropSample).flags = s.flags := rfl
@[simp] theorem State.dropSample_sp (s : State) : (s.dropSample).sp = s.sp := rfl
@[simp] theorem State.dropSample_pc (s : State) : (s.dropSample).pc = s.pc := rfl
@[simp] theorem State.dropSample_mem (s : State) : (s.dropSample).mem = s.mem := rfl
@[simp] theorem State.dropSample_clk (s : State) : (s.dropSample).clk = s.clk := rfl
@[simp] theorem State.dropSample_ime (s : State) : (s.dropSample).ime = s.ime := rfl
@[simp] theorem State.dropSample_imeSched (s : State) : (s.dropSample).imeSched = s.imeSched := rfl
@[simp] theorem State.dropSample_run (s : State) : (s.dropSample).run = s.run := rfl
@[simp] theorem State.dropSample_bp (s : State) : (s.dropSample).bp = s.bp := rfl
@[simp] theorem State.dropSample_dbgMode (s : State) : (s.dropSample).dbgMode = s.dbgMode := rfl
@[simp] theorem State.dropSample_params (s : State) : (s.dropSample).params = s.params := rfl
@[simp] theorem State.dropSample_irqIn (s : State) : (s.dropSample).irqIn = s.irqIn.tail := rfl
@[simp] theorem State.dropSample_hostIn (s : State) : (s.dropSample).hostIn = s.hostIn := rfl
@[simp] theorem State.dropSample_exited (s : State) : (s.dropSample).exited = s.exited := rfl
@[simp] theorem State.dropSample_trace (s : State) : (s.dropSample).trace = s.trace := rfl
@[simp] theorem State.dropSample_ack (s : State) : (s.dropSample).ack = s.ack := rfl
@[simp] theorem State.dropSample_result (s : State) : (s.dropSample).result = s.result := rfl
@[simp] theorem State.dropSample_cycles (s : State) : (s.dropSample).cycles = s.cycles := rfl

@[simp] theorem State.placeInstruction_regs (s : State) (x : Byte) (y : Byte) (z : Byte) : (s.placeInstruction x y z).regs = s.regs := rfl
@[simp] theorem State.placeInstruction_flags (s : State) (x : Byte) (y : Byte) (z : Byte) : (s.placeInstruction x y z).flags = s.flags := rfl
@[simp] theorem State.placeInstruction_sp (s : State) (x : Byte) (y : Byte) (z : Byte) : (s.placeInstruction x y z).sp = s.sp := rfl
@[simp] theorem State.placeInstruction_pc (s : State) (x : Byte) (y : Byte) (z : Byte) : (s.placeInstruction x y z).pc = s.pc := rfl
@[simp] theorem State.placeInstruction_mem (s : State) (x : Byte) (y : Byte) (z : Byte) : (s.placeInstruction x y z).mem = ((s.mem.write s.pc.toNat x).write (s.pc + 1).toNat y).write (s.pc + 2).toNat z := rfl
@[simp] theorem State.placeInstruction_clk (s : State) (x : Byte) (y : Byte) (z : Byte) : (s.placeInstruction x y z).clk = s.clk := rfl
@[simp] theorem State.placeInstruction_ime (s : State) (x : Byte) (y : Byte) (z : Byte) : (s.placeInstruction x y z).ime = s.ime := rfl
@[simp] theorem State.placeInstruction_imeSched (s : State) (x : Byte) (y : Byte) (z : Byte) : (s.placeInstruction x y z).imeSched = s.imeSched := rfl
@[simp] theorem State.placeInstruction_run (s : State) (x : Byte) (y : Byte) (z : Byte) : (s.placeInstruction x y z).run = s.run := rfl
@[simp] theorem State.placeInstruction_bp (s : State) (x : Byte) (y : Byte) (z : Byte) : (s.placeInstruction x y z).bp = s.bp := rfl
@[simp] theorem State.placeInstruction_dbgMode (s : State) (x : Byte) (y : Byte) (z : Byte) : (s.placeInstruction x y z).dbgMode = s.dbgMode := rfl
@[simp] theorem State.placeInstruction_params (s : State) (x : Byte) (y : Byte) (z : Byte) : (s.placeInstruction x y z).params = s.params := rfl
@[simp] theorem State.placeInstruction_irqIn (s : State) (x : Byte) (y : Byte) (z : Byte) : (s.placeInstruction x y z).irqIn = s.irqIn := rfl
@[simp] theorem State.placeInstruction_hostIn (s : State) (x : Byte) (y : Byte) (z : Byte) : (s.placeInstruction x y z).hostIn = s.hostIn := rfl
@[simp] theorem State.placeInstruction_exited (s : State) (x : Byte) (y : Byte) (z : Byte) : (s.placeInstruction x y z).exited = s.exited := rfl
@[simp] theorem State.placeInstruction_trace (s : State) (x : Byte) (y : Byte) (z : Byte) : (s.placeInstruction x y z).trace = s.trace := rfl
@[simp] theorem State.placeInstruction_ack (s : State) (x : Byte) (y : Byte) (z : Byte) : (s.placeInstruction x y z).ack = s.ack := rfl
@[simp] theorem State.placeInstruction_result (s : State) (x : Byte) (y : Byte) (z : Byte) : (s.placeInstruction x y z).result = s.result := rfl
@[simp] theorem State.placeInstruction_cycles (s : State) (x : Byte) (y : Byte) (z : Byte) : (s.placeInstruction x y z).cycles = s.cycles := rfl

@[simp] theorem State.addBreakpoint_regs (s : State) (x : Word) : (s.addBreakpoint x).regs = s.regs := rfl
@[simp] theorem State.addBreakpoint_flags (s : State) (x : Word) : (s.addBreakpoint x).flags = s.flags := rfl
@[simp] theorem State.addBreakpoint_sp (s : State) (x : Word) : (s.addBreakpoint x).sp = s.sp := rfl
@[simp] theorem State.addBreakpoint_pc (s : State) (x : Word) : (s.addBreakpoint x).pc = s.pc := rfl
@[simp] theorem State.addBreakpoint_mem (s : State) (x : Word) : (s.addBreakpoint x).mem = s.mem := rfl
@[simp] theorem State.addBreakpoint_clk (s : State) (x : Word) : (s.addBreakpoint x).clk = s.clk := rfl
@[simp] theorem State.addBreakpoint_ime (s : State) (x : Word) : (s.addBreakpoint x).ime = s.ime := rfl
@[simp] theorem State.addBreakpoint_imeSched (s : State) (x : Word) : (s.addBreakpoint x).imeSched = s.imeSched := rfl
@[simp] theorem State.addBreakpoint_run (s : State) (x : Word) : (s.addBreakpoint x).run = s.run := rfl
@[simp] theorem State.addBreakpoint_bp (s : State) (x : Word) : (s.addBreakpoint x).bp = insertAscending x s.bp := rfl
@[simp] theorem State.addBreakpoint_dbgMode (s : State) (x : Word) : (s.addBreakpoint x).dbgMode = s.dbgMode := rfl
@[simp] theorem State.addBreakpoint_params (s : State) (x : Word) : (s.addBreakpoint x).params = s.params := rfl
@[simp] theorem State.addBreakpoint_irqIn (s : State) (x : Word) : (s.addBreakpoint x).irqIn = s.irqIn := rfl
@[simp] theorem State.addBreakpoint_hostIn (s : State) (x : Word) : (s.addBreakpoint x).hostIn = s.hostIn := rfl
@[simp] theorem State.addBreakpoint_exited (s : State) (x : Word) : (s.addBreakpoint x).exited = s.exited := rfl
@[simp] theorem State.addBreakpoint_trace (s : State) (x : Word) : (s.addBreakpoint x).trace = s.trace := rfl
@[simp] theorem State.addBreakpoint_ack (s : State) (x : Word) : (s.addBreakpoint x).ack = s.ack := rfl
@[simp] theorem State.addBreakpoint_result (s : State) (x : Word) : (s.addBreakpoint x).result = s.result := rfl
@[simp] theorem State.addBreakpoint_cycles (s : State) (x : Word) : (s.addBreakpoint x).cycles = s.cycles := rfl

@[simp] theorem State.removeBreakpoint_regs (s : State) (i : Nat) : (s.removeBreakpoint i).regs = s.regs := rfl
@[simp] theorem State.removeBreakpoint_flags (s : State) (i : Nat) : (s.removeBreakpoint i).flags = s.flags := rfl
@[simp] theorem State.removeBreakpoint_sp (s : State) (i : Nat) : (s.removeBreakpoint i).sp = s.sp := rfl
@[simp] theorem State.removeBreakpoint_pc (s : State) (i : Nat) : (s.removeBreakpoint i).pc = s.pc := rfl
@[simp] theorem State.removeBreakpoint_mem (s : State) (i : Nat) : (s.removeBreakpoint i).mem = s.mem := rfl
@[simp] theorem State.removeBreakpoint_clk (s : State) (i : Nat) : (s.removeBreakpoint i).clk = s.clk := rfl
@[simp] theorem State.removeBreakpoint_ime (s : State) (i : Nat) : (s.removeBreakpoint i).ime = s.ime := rfl
@[simp] theorem State.removeBreakpoint_imeSched (s : State) (i : Nat) : (s.removeBreakpoint i).imeSched = s.imeSched := rfl
@[simp] theorem State.removeBreakpoint_run (s : State) (i : Nat) : (s.removeBreakpoint i).run = s.run := rfl
@[simp] theorem State.removeBreakpoint_bp (s : State) (i : Nat) : (s.removeBreakpoint i).bp = s.bp.eraseIdx i := rfl
@[simp] theorem State.removeBreakpoint_dbgMode (s : State) (i : Nat) : (s.removeBreakpoint i).dbgMode = s.dbgMode := rfl
@[simp] theorem State.removeBreakpoint_params (s : State) (i : Nat) : (s.removeBreakpoint i).params = s.params := rfl
@[simp] theorem State.removeBreakpoint_irqIn (s : State) (i : Nat) : (s.removeBreakpoint i).irqIn = s.irqIn := rfl
@[simp] theorem State.removeBreakpoint_hostIn (s : State) (i : Nat) : (s.removeBreakpoint i).hostIn = s.hostIn := rfl
@[simp] theorem State.removeBreakpoint_exited (s : State) (i : Nat) : (s.removeBreakpoint i).exited = s.exited := rfl
@[simp] theorem State.removeBreakpoint_trace (s : State) (i : Nat) : (s.removeBreakpoint i).trace = s.trace := rfl
@[simp] theorem State.removeBreakpoint_ack (s : State) (i : Nat) : (s.removeBreakpoint i).ack = s.ack := rfl
@[simp] theorem State.removeBreakpoint_result (s : State) (i : Nat) : (s.removeBreakpoint i).result = s.result := rfl
@[simp] theorem State.removeBreakpoint_cycles (s : State) (i : Nat) : (s.removeBreakpoint i).cycles = s.cycles := rfl

@[simp] theorem State.setPair_flags (s : State) (p : Pair) (v : Word) : (s.setPair p v).flags = s.flags := by cases p <;> rfl
@[simp] theorem State.setPair_pc (s : State) (p : Pair) (v : Word) : (s.setPair p v).pc = s.pc := by cases p <;> rfl
@[simp] theorem State.setPair_mem (s : State) (p : Pair) (v : Word) : (s.setPair p v).mem = s.mem := by cases p <;> rfl
@[simp] theorem State.setPair_clk (s : State) (p : Pair) (v : Word) : (s.setPair p v).clk = s.clk := by cases p <;> rfl
@[simp] theorem State.setPair_ime (s : State) (p : Pair) (v : Word) : (s.setPair p v).ime = s.ime := by cases p <;> rfl
@[simp] theorem State.setPair_imeSched (s : State) (p : Pair) (v : Word) : (s.setPair p v).imeSched = s.imeSched := by cases p <;> rfl
@[simp] theorem State.setPair_run (s : State) (p : Pair) (v : Word) : (s.setPair p v).run = s.run := by cases p <;> rfl
@[simp] theorem State.setPair_bp (s : State) (p : Pair) (v : Word) : (s.setPair p v).bp = s.bp := by cases p <;> rfl
@[simp] theorem State.setPair_dbgMode (s : State) (p : Pair) (v : Word) : (s.setPair p v).dbgMode = s.dbgMode := by cases p <;> rfl
@[simp] theorem State.setPair_params (s : State) (p : Pair) (v : Word) : (s.setPair p v).params = s.params := by cases p <;> rfl
@[simp] theorem State.setPair_irqIn (s : State) (p : Pair) (v : Word) : (s.setPair p v).irqIn = s.irqIn := by cases p <;> rfl
@[simp] theorem State.setPair_hostIn (s : State) (p : Pair) (v : Word) : (s.setPair p v).hostIn = s.hostIn := by cases p <;> rfl
@[simp] theorem State.setPair_exited (s : State) (p : Pair) (v : Word) : (s.setPair p v).exited = s.exited := by cases p <;> rfl
@[simp] theorem State.setPair_trace (s : State) (p : Pair) (v : Word) : (s.setPair p v).trace = s.trace := by cases p <;> rfl
@[simp] theorem State.setPair_ack (s : State) (p : Pair) (v : Word) : (s.setPair p v).ack = s.ack := by cases p <;> rfl
@[simp] theorem State.setPair_result (s : State) (p : Pair) (v : Word) : (s.setPair p v).result = s.result := by cases p <;> rfl
@[simp] theorem State.setPair_cycles (s : State) (p : Pair) (v : Word) : (s.setPair p v).cycles = s.cycles := by cases p <;> rfl

@[simp] theorem State.applyAcc_flags (s : State) (x : AccResult) : (s.applyAcc x).flags = x.flags := by unfold State.applyAcc; split <;> rfl
@[simp] theorem State.applyAcc_sp (s : State) (x : AccResult) : (s.applyAcc x).sp = s.sp := by unfold State.applyAcc; split <;> rfl
@[simp] theorem State.applyAcc_pc (s : State) (x : AccResult) : (s.applyAcc x).pc = s.pc := by unfold State.applyAcc; split <;> rfl
@[simp] theorem State.applyAcc_mem (s : State) (x : AccResult) : (s.applyAcc x).mem = s.mem := by unfold State.applyAcc; split <;> rfl
@[simp] theorem State.applyAcc_clk (s : State) (x : AccResult) : (s.applyAcc x).clk = s.clk := by unfold State.applyAcc; split <;> rfl
@[simp] theorem State.applyAcc_ime (s : State) (x : AccResult) : (s.applyAcc x).ime = s.ime := by unfold State.applyAcc; split <;> rfl
@[simp] theorem State.applyAcc_imeSched (s : State) (x : AccResult) : (s.applyAcc x).imeSched = s.imeSched := by unfold State.applyAcc; split <;> rfl
@[simp] theorem State.applyAcc_run (s : State) (x : AccResult) : (s.applyAcc x).run = s.run := by unfold State.applyAcc; split <;> rfl
@[simp] theorem State.applyAcc_bp (s : State) (x : AccResult) : (s.applyAcc x).bp = s.bp := by unfold State.applyAcc; split <;> rfl
@[simp] theorem State.applyAcc_dbgMode (s : State) (x : AccResult) : (s.applyAcc x).dbgMode = s.dbgMode := by unfold State.applyAcc; split <;> rfl
@[simp] theorem State.applyAcc_params (s : State) (x : AccResult) : (s.applyAcc x).params = s.params := by unfold State.applyAcc; split <;> rfl
@[simp] theorem State.applyAcc_irqIn (s : State) (x : AccResult) : (s.applyAcc x).irqIn = s.irqIn := by unfold State.applyAcc; split <;> rfl
@[simp] theorem State.applyAcc_hostIn (s : State) (x : AccResult) : (s.applyAcc x).hostIn = s.hostIn := by unfold State.applyAcc; split <;> rfl
@[simp] theorem State.applyAcc_exited (s : State) (x : AccResult) : (s.applyAcc x).exited = s.exited := by unfold State.applyAcc; split <;> rfl
@[simp] theorem State.applyAcc_trace (s : State) (x : AccResult) : (s.applyAcc x).trace = s.trace := by unfold State.applyAcc; split <;> rfl
@[simp] theorem State.applyAcc_ack (s : State) (x : AccResult) : (s.applyAcc x).ack = s.ack := by unfold State.applyAcc; split <;> rfl
@[simp] theorem State.applyAcc_result (s : State) (x : AccResult) : (s.applyAcc x).result = s.result := by unfold State.applyAcc; split <;> rfl
@[simp] theorem State.applyAcc_cycles (s : State) (x : AccResult) : (s.applyAcc x).cycles = s.cycles := by unfold State.applyAcc; split <;> rfl

@[simp] theorem State.wake_regs (s : State) : (s.wake).regs = s.regs := by unfold State.wake; split <;> rfl
@[simp] theorem State.wake_flags (s : State) : (s.wake).flags = s.flags := by unfold State.wake; split <;> rfl
@[simp] theorem State.wake_sp (s : State) : (s.wake).sp = s.sp := by unfold State.wake; split <;> rfl
@[simp] theorem State.wake_pc (s : State) : (s.wake).pc = s.pc := by unfold State.wake; split <;> rfl
@[simp] theorem State.wake_mem (s : State) : (s.wake).mem = s.mem := by unfold State.wake; split <;> rfl
@[simp] theorem State.wake_clk (s : State) : (s.wake).clk = s.clk := by unfold State.wake; split <;> rfl
@[simp] theorem State.wake_ime (s : State) : (s.wake).ime = s.ime := by unfold State.wake; split <;> rfl
@[simp] theorem State.wake_imeSched (s : State) : (s.wake).imeSched = s.imeSched := by unfold State.wake; split <;> rfl
@[simp] theorem State.wake_bp (s : State) : (s.wake).bp = s.bp := by unfold State.wake; split <;> rfl
@[simp] theorem State.wake_dbgMode (s : State) : (s.wake).dbgMode = s.dbgMode := by unfold State.wake; split <;> rfl
@[simp] theorem State.wake_params (s : State) : (s.wake).params = s.params := by unfold State.wake; split <;> rfl
@[simp] theorem State.wake_irqIn (s : State) : (s.wake).irqIn = s.irqIn := by unfold State.wake; split <;> rfl
@[simp] theorem State.wake_hostIn (s : State) : (s.wake).hostIn = s.hostIn := by unfold State.wake; split <;> rfl
@[simp] theorem State.wake_exited (s : State) : (s.wake).exited = s.exited := by unfold State.wake; split <;> rfl
@[simp] theorem State.wake_trace (s : State) : (s.wake).trace = s.trace := by unfold State.wake; split <;> rfl
@[simp] theorem State.wake_ack (s : State) : (s.wake).ack = s.ack := by unfold State.wake; split <;> rfl
@[simp] theorem State.wake_result (s : State) : (s.wake).result = s.result := by unfold State.wake; split <;> rfl
@[simp] theorem State.wake_cycles (s : State) : (s.wake).cycles = s.cycles := by unfold State.wake; split <;> rfl

@[simp] theorem State.commitEi_regs (s : State) (x : Bool) : (s.commitEi x).regs = s.regs := by unfold State.commitEi; split <;> rfl
@[simp] theorem State.commitEi_flags (s : State) (x : Bool) : (s.commitEi x).flags = s.flags := by unfold State.commitEi; split <;> rfl
@[simp] theorem State.commitEi_sp (s : State) (x : Bool) : (s.commitEi x).sp = s.sp := by unfold State.commitEi; split <;> rfl
@[simp] theorem State.commitEi_pc (s : State) (x : Bool) : (s.commitEi x).pc = s.pc := by unfold State.commitEi; split <;> rfl
@[simp] theorem State.commitEi_mem (s : State) (x : Bool) : (s.commitEi x).mem = s.mem := by unfold State.commitEi; split <;> rfl
@[simp] theorem State.commitEi_clk (s : State) (x : Bool) : (s.commitEi x).clk = s.clk := by unfold State.commitEi; split <;> rfl
@[simp] theorem State.commitEi_run (s : State) (x : Bool) : (s.commitEi x).run = s.run := by unfold State.commitEi; split <;> rfl
@[simp] theorem State.commitEi_bp (s : State) (x : Bool) : (s.commitEi x).bp = s.bp := by unfold State.commitEi; split <;> rfl
@[simp] theorem State.commitEi_dbgMode (s : State) (x : Bool) : (s.commitEi x).dbgMode = s.dbgMode := by unfold State.commitEi; split <;> rfl
@[simp] theorem State.commitEi_params (s : State) (x : Bool) : (s.commitEi x).params = s.params := by unfold State.commitEi; split <;> rfl
@[simp] theorem State.commitEi_irqIn (s : State) (x : Bool) : (s.commitEi x).irqIn = s.irqIn := by unfold State.commitEi; split <;> rfl
@[simp] theorem State.commitEi_hostIn (s : State) (x : Bool) : (s.commitEi x).hostIn = s.hostIn := by unfold State.commitEi; split <;> rfl
@[simp] theorem State.commitEi_exited (s : State) (x : Bool) : (s.commitEi x).exited = s.exited := by unfold State.commitEi; split <;> rfl
@[simp] theorem State.commitEi_trace (s : State) (x : Bool) : (s.commitEi x).trace = s.trace := by unfold State.commitEi; split <;> rfl
@[simp] theorem State.commitEi_ack (s : State) (x : Bool) : (s.commitEi x).ack = s.ack := by unfold State.commitEi; split <;> rfl
@[simp] theorem State.commitEi_result (s : State) (x : Bool) : (s.commitEi x).result = s.result := by unfold State.commitEi; split <;> rfl
@[simp] theorem State.commitEi_cycles (s : State) (x : Bool) : (s.commitEi x).cycles = s.cycles := by unfold State.commitEi; split <;> rfl

@[simp] theorem State.setRegs_readByte (s : State) (x : RegFile) (b : Word) : (s.setRegs x).readByte b = s.readByte b := by simp [State.readByte]
@[simp] theorem State.setRegs_popValue (s : State) (x : RegFile) : (s.setRegs x).popValue = s.popValue := by simp [State.popValue, State.readWord]
@[simp] theorem State.setFlags_reg (s : State) (x : Flags) (q : Reg) : (s.setFlags x).reg q = s.reg q := by simp [State.reg]
@[simp] theorem State.setFlags_readByte (s : State) (x : Flags) (b : Word) : (s.setFlags x).readByte b = s.readByte b := by simp [State.readByte]
@[simp] theorem State.setFlags_hl (s : State) (x : Flags) : (s.setFlags x).hl = s.hl := by simp [State.hl, State.pair]
@[simp] theorem State.setFlags_pair (s : State) (x : Flags) (p : Pair) : (s.setFlags x).pair p = s.pair p := by cases p <;> simp [State.pair]
@[simp] theorem State.setFlags_popValue (s : State) (x : Flags) : (s.setFlags x).popValue = s.popValue := by simp [State.popValue, State.readWord]
@[simp] theorem State.setFlags_atHl (s : State) (x : Flags) : (s.setFlags x).atHl = s.atHl := by simp [State.atHl]
@[simp] theorem State.setSp_reg (s : State) (x : Word) (q : Reg) : (s.setSp x).reg q = s.reg q := by simp [State.reg]
@[simp] theorem State.setSp_readByte (s : State) (x : Word) (b : Word) : (s.setSp x).readByte b = s.readByte b := by simp [State.readByte]
@[simp] theorem State.setSp_hl (s : State) (x : Word) : (s.setSp x).hl = s.hl := by simp [State.hl, State.pair]
@[simp] theorem State.setSp_atHl (s : State) (x : Word) : (s.setSp x).atHl = s.atHl := by simp [State.atHl]
@[simp] theorem State.setPc_reg (s : State) (x : Word) (q : Reg) : (s.setPc x).reg q = s.reg q := by simp [State.reg]
@[simp] theorem State.setPc_readByte (s : State) (x : Word) (b : Word) : (s.setPc x).readByte b = s.readByte b := by simp [State.readByte]
@[simp] theorem State.setPc_hl (s : State) (x : Word) : (s.setPc x).hl = s.hl := by simp [State.hl, State.pair]
@[simp] theorem State.setPc_pair (s : State) (x : Word) (p : Pair) : (s.setPc x).pair p = s.pair p := by cases p <;> simp [State.pair]
@[simp] theorem State.setPc_popValue (s : State) (x : Word) : (s.setPc x).popValue = s.popValue := by simp [State.popValue, State.readWord]
@[simp] theorem State.setPc_atHl (s : State) (x : Word) : (s.setPc x).atHl = s.atHl := by simp [State.atHl]
@[simp] theorem State.setMem_reg (s : State) (x : Memory) (q : Reg) : (s.setMem x).reg q = s.reg q := by simp [State.reg]
@[simp] theorem State.setMem_hl (s : State) (x : Memory) : (s.setMem x).hl = s.hl := by simp [State.hl, State.pair]
@[simp] theorem State.setMem_pair (s : State) (x : Memory) (p : Pair) : (s.setMem x).pair p = s.pair p := by cases p <;> simp [State.pair]
@[simp] theorem State.setClk_reg (s : State) (x : Nat) (q : Reg) : (s.setClk x).reg q = s.reg q := by simp [State.reg]
@[simp] theorem State.setClk_readByte (s : State) (x : Nat) (b : Word) : (s.setClk x).readByte b = s.readByte b := by simp [State.readByte]
@[simp] theorem State.setClk_hl (s : State) (x : Nat) : (s.setClk x).hl = s.hl := by simp [State.hl, State.pair]
@[simp] theorem State.setClk_pair (s : State) (x : Nat) (p : Pair) : (s.setClk x).pair p = s.pair p := by cases p <;> simp [State.pair]
@[simp] theorem State.setClk_popValue (s : State) (x : Nat) : (s.setClk x).popValue = s.popValue := by simp [State.popValue, State.readWord]
@[simp] theorem State.setClk_atHl (s : State) (x : Nat) : (s.setClk x).atHl = s.atHl := by simp [State.atHl]
@[simp] theorem State.setIme_reg (s : State) (x : Bool) (q : Reg) : (s.setIme x).reg q = s.reg q := by simp [State.reg]
@[simp] theorem State.setIme_readByte (s : State) (x : Bool) (b : Word) : (s.setIme x).readByte b = s.readByte b := by simp [State.readByte]
@[simp] theorem State.setIme_hl (s : State) (x : Bool) : (s.setIme x).hl = s.hl := by simp [State.hl, State.pair]
@[simp] theorem State.setIme_pair (s : State) (x : Bool) (p : Pair) : (s.setIme x).pair p = s.pair p := by cases p <;> simp [State.pair]
@[simp] theorem State.setIme_popValue (s : State) (x : Bool) : (s.setIme x).popValue = s.popValue := by simp [State.popValue, State.readWord]
@[simp] theorem State.setIme_atHl (s : State) (x : Bool) : (s.setIme x).atHl = s.atHl := by simp [State.atHl]
@[simp] theorem State.setImeSched_reg (s : State) (x : Bool) (q : Reg) : (s.setImeSched x).reg q = s.reg q := by simp [State.reg]
@[simp] theorem State.setImeSched_readByte (s : State) (x : Bool) (b : Word) : (s.setImeSched x).readByte b = s.readByte b := by simp [State.readByte]
@[simp] theorem State.setImeSched_hl (s : State) (x : Bool) : (s.setImeSched x).hl = s.hl := by simp [State.hl, State.pair]
@[simp] theorem State.setImeSched_pair (s : State) (x : Bool) (p : Pair) : (s.setImeSched x).pair p = s.pair p := by cases p <;> simp [State.pair]
@[simp] theorem State.setImeSched_popValue (s : State) (x : Bool) : (s.setImeSched x).popValue = s.popValue := by simp [State.popValue, State.readWord]
@[simp] theorem State.setImeSched_atHl (s : State) (x : Bool) : (s.setImeSched x).atHl = s.atHl := by simp [State.atHl]
@[simp] theorem State.setRun_reg (s : State) (x : RunState) (q : Reg) : (s.setRun x).reg q = s.reg q := by simp [State.reg]
@[simp] theorem State.setRun_readByte (s : State) (x : RunState) (b : Word) : (s.setRun x).readByte b = s.readByte b := by simp [State.readByte]
@[simp] theorem State.setRun_hl (s : State) (x : RunState) : (s.setRun x).hl = s.hl := by simp [State.hl, State.pair]
@[simp] theorem State.setRun_pair (s : State) (x : RunState) (p : Pair) : (s.setRun x).pair p = s.pair p := by cases p <;> simp [State.pair]
@[simp] theorem State.setRun_popValue (s : State) (x : RunState) : (s.setRun x).popValue = s.popValue := by simp [State.popValue, State.readWord]
@[simp] theorem State.setRun_atHl (s : State) (x : RunState) : (s.setRun x).atHl = s.atHl := by simp [State.atHl]
@[simp] theorem State.setBp_reg (s : State) (x : List Word) (q : Reg) : (s.setBp x).reg q = s.reg q := by simp [State.reg]
@[simp] theorem State.setBp_readByte (s : State) (x : List Word) (b : Word) : (s.setBp x).readByte b = s.readByte b := by simp [State.readByte]
@[simp] theorem State.setBp_hl (s : State) (x : List Word) : (s.setBp x).hl = s.hl := by simp [State.hl, State.pair]
@[simp] theorem State.setBp_pair (s : State) (x : List Word) (p : Pair) : (s.setBp x).pair p = s.pair p := by cases p <;> simp [State.pair]
@[simp] theorem State.setBp_popValue (s : State) (x : List Word) : (s.setBp x).popValue = s.popValue := by simp [State.popValue, State.readWord]
@[simp] theorem State.setBp_atHl (s : State) (x : List Word) : (s.setBp x).atHl = s.atHl := by simp [State.atHl]
@[simp] theorem State.setDbgMode_reg (s : State) (x : DbgMode) (q : Reg) : (s.setDbgMode x).reg q = s.reg q := by simp [State.reg]
@[simp] theorem State.setDbgMode_readByte (s : State) (x : DbgMode) (b : Word) : (s.setDbgMode x).readByte b = s.readByte b := by simp [State.readByte]
@[simp] theorem State.setDbgMode_hl (s : State) (x : DbgMode) : (s.setDbgMode x).hl = s.hl := by simp [State.hl, State.pair]
@[simp] theorem State.setDbgMode_pair (s : State) (x : DbgMode) (p : Pair) : (s.setDbgMode x).pair p = s.pair p := by cases p <;> simp [State.pair]
@[simp] theorem State.setDbgMode_popValue (s : State) (x : DbgMode) : (s.setDbgMode x).popValue = s.popValue := by simp [State.popValue, State.readWord]
@[simp] theorem State.setDbgMode_atHl (s : State) (x : DbgMode) : (s.setDbgMode x).atHl = s.atHl := by simp [State.atHl]
@[simp] theorem State.setIrqIn_reg (s : State) (x : Feed (Option Word)) (q : Reg) : (s.setIrqIn x).reg q = s.reg q := by simp [State.reg]
@[simp] theorem State.setIrqIn_readByte (s : State) (x : Feed (Option Word)) (b : Word) : (s.setIrqIn x).readByte b = s.readByte b := by simp [State.readByte]
@[simp] theorem State.setIrqIn_hl (s : State) (x : Feed (Option Word)) : (s.setIrqIn x).hl = s.hl := by simp [State.hl, State.pair]
@[simp] theorem State.setIrqIn_pair (s : State) (x : Feed (Option Word)) (p : Pair) : (s.setIrqIn x).pair p = s.pair p := by cases p <;> simp [State.pair]
@[simp] theorem State.setIrqIn_popValue (s : State) (x : Feed (Option Word)) : (s.setIrqIn x).popValue = s.popValue := by simp [State.popValue, State.readWord]
@[simp] theorem State.setIrqIn_atHl (s : State) (x : Feed (Option Word)) : (s.setIrqIn x).atHl = s.atHl := by simp [State.atHl]
@[simp] theorem State.setHostIn_reg (s : State) (x : Feed HostCmd) (q : Reg) : (s.setHostIn x).reg q = s.reg q := by simp [State.reg]
@[simp] theorem State.setHostIn_readByte (s : State) (x : Feed HostCmd) (b : Word) : (s.setHostIn x).readByte b = s.readByte b := by simp [State.readByte]
@[simp] theorem State.setHostIn_hl (s : State) (x : Feed HostCmd) : (s.setHostIn x).hl = s.hl := by simp [State.hl, State.pair]
@[simp] theorem State.setHostIn_pair (s : State) (x : Feed HostCmd) (p : Pair) : (s.setHostIn x).pair p = s.pair p := by cases p <;> simp [State.pair]
@[simp] theorem State.setHostIn_popValue (s : State) (x : Feed HostCmd) : (s.setHostIn x).popValue = s.popValue := by simp [State.popValue, State.readWord]
@[simp] theorem State.setHostIn_atHl (s : State) (x : Feed HostCmd) : (s.setHostIn x).atHl = s.atHl := by simp [State.atHl]
@[simp] theorem State.setExited_reg (s : State) (x : Bool) (q : Reg) : (s.setExited x).reg q = s.reg q := by simp [State.reg]
@[simp] theorem State.setExited_readByte (s : State) (x : Bool) (b : Word) : (s.setExited x).readByte b = s.readByte b := by simp [State.readByte]
@[simp] theorem State.setExited_hl (s : State) (x : Bool) : (s.setExited x).hl = s.hl := by simp [State.hl, State.pair]
@[simp] theorem State.setExited_pair (s : State) (x : Bool) (p : Pair) : (s.setExited x).pair p = s.pair p := by cases p <;> simp [State.pair]
@[simp] theorem State.setExited_popValue (s : State) (x : Bool) : (s.setExited x).popValue = s.popValue := by simp [State.popValue, State.readWord]
@[simp] theorem State.setExited_atHl (s : State) (x : Bool) : (s.setExited x).atHl = s.atHl := by simp [State.atHl]
@[simp] theorem State.setTrace_reg (s : State) (x : List WriteEvent) (q : Reg) : (s.setTrace x).reg q = s.reg q := by simp [State.reg]
@[simp] theorem State.setTrace_readByte (s : State) (x : List WriteEvent) (b : Word) : (s.setTrace x).readByte b = s.readByte b := by simp [State.readByte]
@[simp] theorem State.setTrace_hl (s : State) (x : List WriteEvent) : (s.setTrace x).hl = s.hl := by simp [State.hl, State.pair]
@[simp] theorem State.setTrace_pair (s : State) (x : List WriteEvent) (p : Pair) : (s.setTrace x).pair p = s.pair p := by cases p <;> simp [State.pair]
@[simp] theorem State.setTrace_popValue (s : State) (x : List WriteEvent) : (s.setTrace x).popValue = s.popValue := by simp [State.popValue, State.readWord]
@[simp] theorem State.setTrace_atHl (s : State) (x : List WriteEvent) : (s.setTrace x).atHl = s.atHl := by simp [State.atHl]
@[simp] theorem State.setAck_reg (s : State) (x : Option Word) (q : Reg) : (s.setAck x).reg q = s.reg q := by simp [State.reg]
@[simp] theorem State.setAck_readByte (s : State) (x : Option Word) (b : Word) : (s.setAck x).readByte b = s.readByte b := by simp [State.readByte]
@[simp] theorem State.setAck_hl (s : State) (x : Option Word) : (s.setAck x).hl = s.hl := by simp [State.hl, State.pair]
@[simp] theorem State.setAck_pair (s : State) (x : Option Word) (p : Pair) : (s.setAck x).pair p = s.pair p := by cases p <;> simp [State.pair]
@[simp] theorem State.setAck_popValue (s : State) (x : Option Word) : (s.setAck x).popValue = s.popValue := by simp [State.popValue, State.readWord]
@[simp] theorem State.setAck_atHl (s : State) (x : Option Word) : (s.setAck x).atHl = s.atHl := by simp [State.atHl]
@[simp] theorem State.report_reg (s : State) (x : StepResult) (n : Nat) (q : Reg) : (s.report x n).reg q = s.reg q := by simp [State.reg]
@[simp] theorem State.report_readByte (s : State) (x : StepResult) (n : Nat) (b : Word) : (s.report x n).readByte b = s.readByte b := by simp [State.readByte]
@[simp] theorem State.report_hl (s : State) (x : StepResult) (n : Nat) : (s.report x n).hl = s.hl := by simp [State.hl, State.pair]
@[simp] theorem State.report_pair (s : State) (x : StepResult) (n : Nat) (p : Pair) : (s.report x n).pair p = s.pair p := by cases p <;> simp [State.pair]
@[simp] theorem State.report_popValue (s : State) (x : StepResult) (n : Nat) : (s.report x n).popValue = s.popValue := by simp [State.popValue, State.readWord]
@[simp] theorem State.report_atHl (s : State) (x : StepResult) (n : Nat) : (s.report x n).atHl = s.atHl := by simp [State.atHl]
@[simp] theorem State.setReg_readByte (s : State) (r : Reg) (v : Byte) (b : Word) : (s.setReg r v).readByte b = s.readByte b := by simp [State.readByte]
@[simp] theorem State.setReg_popValue (s : State) (r : Reg) (v : Byte) : (s.setReg r v).popValue = s.popValue := by simp [State.popValue, State.readWord]
@[simp] theorem State.setAf_readByte (s : State) (v : Word) (b : Word) : (s.setAf v).readByte b = s.readByte b := by simp [State.readByte]
@[simp] theorem State.setAf_popValue (s : State) (v : Word) : (s.setAf v).popValue = s.popValue := by simp [State.popValue, State.readWord]
@[simp] theorem State.writeByte_reg (s : State) (a : Word) (v : Byte) (q : Reg) : (s.writeByte a v).reg q = s.reg q := by simp [State.reg]
@[simp] theorem State.writeByte_hl (s : State) (a : Word) (v : Byte) : (s.writeByte a v).hl = s.hl := by simp [State.hl, State.pair]
@[simp] theorem State.writeByte_pair (s : State) (a : Word) (v : Byte) (p : Pair) : (s.writeByte a v).pair p = s.pair p := by cases p <;> simp [State.pair]
@[simp] theorem State.writeWord_reg (s : State) (a : Word) (v : Word) (q : Reg) : (s.writeWord a v).reg q = s.reg q := by simp [State.reg]
@[simp] theorem State.writeWord_hl (s : State) (a : Word) (v : Word) : (s.writeWord a v).hl = s.hl := by simp [State.hl, State.pair]
@[simp] theorem State.writeWord_pair (s : State) (a : Word) (v : Word) (p : Pair) : (s.writeWord a v).pair p = s.pair p := by cases p <;> simp [State.pair]
@[simp] theorem State.push16_reg (s : State) (v : Word) (q : Reg) : (s.push16 v).reg q = s.reg q := by simp [State.reg]
@[simp] theorem State.push16_hl (s : State) (v : Word) : (s.push16 v).hl = s.hl := by simp [State.hl, State.pair]
@[simp] theorem State.popped_reg (s : State) (q : Reg) : (s.popped).reg q = s.reg q := by simp [State.reg]
@[simp] theorem State.popped_readByte (s : State) (b : Word) : (s.popped).readByte b = s.readByte b := by simp [State.readByte]
@[simp] theorem State.popped_hl (s : State) : (s.popped).hl = s.hl := by simp [State.hl, State.pair]
@[simp] theorem State.popped_atHl (s : State) : (s.popped).atHl = s.atHl := by simp [State.atHl]
@[simp] theorem State.advance_reg (s : State) (n : Nat) (q : Reg) : (s.advance n).reg q = s.reg q := by simp [State.reg]
@[simp] theorem State.advance_readByte (s : State) (n : Nat) (b : Word) : (s.advance n).readByte b = s.readByte b := by simp [State.readByte]
@[simp] theorem State.advance_hl (s : State) (n : Nat) : (s.advance n).hl = s.hl := by simp [State.hl, State.pair]
@[simp] theorem State.advance_pair (s : State) (n : Nat) (p : Pair) : (s.advance n).pair p = s.pair p := by cases p <;> simp [State.pair]
@[simp] theorem State.advance_popValue (s : State) (n : Nat) : (s.advance n).popValue = s.popValue := by simp [State.popValue, State.readWord]
@[simp] theorem State.advance_atHl (s : State) (n : Nat) : (s.advance n).atHl = s.atHl := by simp [State.atHl]
@[simp] theorem State.addClk_reg (s : State) (n : Nat) (q : Reg) : (s.addClk n).reg q = s.reg q := by simp [State.reg]
@[simp] theorem State.addClk_readByte (s : State) (n : Nat) (b : Word) : (s.addClk n).readByte b = s.readByte b := by simp [State.readByte]
@[simp] theorem State.addClk_hl (s : State) (n : Nat) : (s.addClk n).hl = s.hl := by simp [State.hl, State.pair]
@[simp] theorem State.addClk_pair (s : State) (n : Nat) (p : Pair) : (s.addClk n).pair p = s.pair p := by cases p <;> simp [State.pair]
@[simp] theorem State.addClk_popValue (s : State) (n : Nat) : (s.addClk n).popValue = s.popValue := by simp [State.popValue, State.readWord]
@[simp] theorem State.addClk_atHl (s : State) (n : Nat) : (s.addClk n).atHl = s.atHl := by simp [State.atHl]
@[simp] theorem State.raise_reg (s : State) (x : Fault) (q : Reg) : (s.raise x).reg q = s.reg q := by simp [State.reg]
@[simp] theorem State.raise_readByte (s : State) (x : Fault) (b : Word) : (s.raise x).readByte b = s.readByte b := by simp [State.readByte]
@[simp] theorem State.raise_hl (s : State) (x : Fault) : (s.raise x).hl = s.hl := by simp [State.hl, State.pair]
@[simp] theorem State.raise_pair (s : State) (x : Fault) (p : Pair) : (s.raise x).pair p = s.pair p := by cases p <;> simp [State.pair]
@[simp] theorem State.raise_popValue (s : State) (x : Fault) : (s.raise x).popValue = s.popValue := by simp [State.popValue, State.readWord]
@[simp] theorem State.raise_atHl (s : State) (x : Fault) : (s.raise x).atHl = s.atHl := by simp [State.atHl]
@[simp] theorem State.enterInterrupt_reg (s : State) (v : Word) (q : Reg) : (s.enterInterrupt v).reg q = s.reg q := by simp [State.reg]
@[simp] theorem State.enterInterrupt_hl (s : State) (v : Word) : (s.enterInterrupt v).hl = s.hl := by simp [State.hl, State.pair]
@[simp] theorem State.returnInterrupt_reg (s : State) (q : Reg) : (s.returnInterrupt).reg q = s.reg q := by simp [State.reg]
@[simp] theorem State.returnInterrupt_readByte (s : State) (b : Word) : (s.returnInterrupt).readByte b = s.readByte b := by simp [State.readByte]
@[simp] theorem State.returnInterrupt_hl (s : State) : (s.returnInterrupt).hl = s.hl := by simp [State.hl, State.pair]
@[simp] theorem State.returnInterrupt_atHl (s : State) : (s.returnInterrupt).atHl = s.atHl := by simp [State.atHl]
@[simp] theorem State.dropSample_reg (s : State) (q : Reg) : (s.dropSample).reg q = s.reg q := by simp [State.reg]
@[simp] theorem State.dropSample_readByte (s : State) (b : Word) : (s.dropSample).readByte b = s.readByte b := by simp [State.readByte]
@[simp] theorem State.dropSample_hl (s : State) : (s.dropSample).hl = s.hl := by simp [State.hl, State.pair]
@[simp] theorem State.dropSample_pair (s : State) (p : Pair) : (s.dropSample).pair p = s.pair p := by cases p <;> simp [State.pair]
@[simp] theorem State.dropSample_popValue (s : State) : (s.dropSample).popValue = s.popValue := by simp [State.popValue, State.readWord]
@[simp] theorem State.dropSample_atHl (s : State) : (s.dropSample).atHl = s.atHl := by simp [State.atHl]
@[simp] theorem State.placeInstruction_reg (s : State) (x : Byte) (y : Byte) (z : Byte) (q : Reg) : (s.placeInstruction x y z).reg q = s.reg q := by simp [State.reg]
@[simp] theorem State.placeInstruction_hl (s : State) (x : Byte) (y : Byte) (z : Byte) : (s.placeInstruction x y z).hl = s.hl := by simp [State.hl, State.pair]
@[simp] theorem State.placeInstruction_pair (s : State) (x : Byte) (y : Byte) (z : Byte) (p : Pair) : (s.placeInstruction x y z).pair p = s.pair p := by cases p <;> simp [State.pair]
@[simp] theorem State.addBreakpoint_reg (s : State) (x : Word) (q : Reg) : (s.addBreakpoint x).reg q = s.reg q := by simp [State.reg]
@[simp] theorem State.addBreakpoint_readByte (s : State) (x : Word) (b : Word) : (s.addBreakpoint x).readByte b = s.readByte b := by simp [State.readByte]
@[simp] theorem State.addBreakpoint_hl (s : State) (x : Word) : (s.addBreakpoint x).hl = s.hl := by simp [State.hl, State.pair]
@[simp] theorem State.addBreakpoint_pair (s : State) (x : Word) (p : Pair) : (s.addBreakpoint x).pair p = s.pair p := by cases p <;> simp [State.pair]
@[simp] theorem State.addBreakpoint_popValue (s : State) (x : Word) : (s.addBreakpoint x).popValue = s.popValue := by simp [State.popValue, State.readWord]
@[simp] theorem State.addBreakpoint_atHl (s : State) (x : Word) : (s.addBreakpoint x).atHl = s.atHl := by simp [State.atHl]
@[simp] theorem State.removeBreakpoint_reg (s : State) (i : Nat) (q : Reg) : (s.removeBreakpoint i).reg q = s.reg q := by simp [State.reg]
@[simp] theorem State.removeBreakpoint_readByte (s : State) (i : Nat) (b : Word) : (s.removeBreakpoint i).readByte b = s.readByte b := by simp [State.readByte]
@[simp] theorem State.removeBreakpoint_hl (s : State) (i : Nat) : (s.removeBreakpoint i).hl = s.hl := by simp [State.hl, State.pair]
@[simp] theorem State.removeBreakpoint_pair (s : State) (i : Nat) (p : Pair) : (s.removeBreakpoint i).pair p = s.pair p := by cases p <;> simp [State.pair]
@[simp] theorem State.removeBreakpoint_popValue (s : State) (i : Nat) : (s.removeBreakpoint i).popValue = s.popValue := by simp [State.popValue, State.readWord]
@[simp] theorem State.removeBreakpoint_atHl (s : State) (i : Nat) : (s.removeBreakpoint i).atHl = s.atHl := by simp [State.atHl]

@[simp] theorem State.setPair_readByte (s : State) (p : Pair) (v b : Word) : (s.setPair p v).readByte b = s.readByte b := by
  simp [State.readByte]

@[simp] theorem State.applyAcc_readByte (s : State) (x : AccResult) (b : Word) : (s.applyAcc x).readByte b = s.readByte b := by
  simp [State.readByte]

@[simp] theorem RegFile.get_set_same (x : RegFile) (r : Reg) (v : Byte) : (x.set r v).get r = v := by
  cases r <;> rfl

theorem RegFile.get_set_other (x : RegFile) (r q : Reg) (v : Byte) (h : q ≠ r) : (x.set r v).get q = x.get q := by
  cases r <;> cases q <;> first | rfl | exact absurd rfl h

@[simp] theorem State.setReg_reg_same (s : State) (r : Reg) (v : Byte) : (s.setReg r v).reg r = v :=
  RegFile.get_set_same s.regs r v

theorem State.setReg_reg_other (s : State) (r q : Reg) (v : Byte) (h : q ≠ r) : (s.setReg r v).reg q = s.reg q :=
  RegFile.get_set_other s.regs r q v h

/-- A register file is the seven bytes it reads as. -/
theorem RegFile.ext_get (x y : RegFile) (h : ∀ r, x.get r = y.get r) : x = y := by
  have hb := h .b; have hc := h .c; have hd := h .d; have he := h .e
  have hh := h .h; have hl := h .l; have ha := h .a
  cases x; cases y
  simp only [RegFile.get] at hb hc hd he hh hl ha
  subst hb hc hd he hh hl ha
  rfl

end Sys2Proof.Machine
end

