-- ==== Sys2Proof/Laws/Effect.lean ====
section
/-! SUPPORT. `exec` through the effect: every instruction is the instruction of one effect, and what
`exec` does with it is that effect's shared operation.  A proof over all instructions is a case split over
the effects. -/

namespace Sys2Proof.Machine

/-- The shared operation of an effect. -/
def Effect.run : Effect → State → Answer
  | .ldRegReg r q => runLdRegReg r q
  | .ldRegImm r n => runLdRegImm r n
  | .ldRegAtHl r => runLdRegAtHl r
  | .ldAtHlReg r => runLdAtHlReg r
  | .ldAtHlImm n => runLdAtHlImm n
  | .ldAccAtBc => runLdAccAtBc
  | .ldAccAtDe => runLdAccAtDe
  | .ldAtBcAcc => runLdAtBcAcc
  | .ldAtDeAcc => runLdAtDeAcc
  | .ldAccAtAbs w => runLdAccAtAbs w
  | .ldAtAbsAcc w => runLdAtAbsAcc w
  | .ldAccAtHigh n => runLdAccAtHigh n
  | .ldAtHighAcc n => runLdAtHighAcc n
  | .ldAccAtC => runLdAccAtC
  | .ldAtCAcc => runLdAtCAcc
  | .ldAtHlIncAcc => runLdAtHlIncAcc
  | .ldAccAtHlInc => runLdAccAtHlInc
  | .ldAtHlDecAcc => runLdAtHlDecAcc
  | .ldAccAtHlDec => runLdAccAtHlDec
  | .ldPairImm p w => runLdPairImm p w
  | .ldAtAbsSp w => runLdAtAbsSp w
  | .ldSpFromHl => runLdSpFromHl
  | .ldHlSpOffset e => runLdHlSpOffset e
  | .pushPair p => runPushPair p
  | .pushAf => runPushAf
  | .popPair p => runPopPair p
  | .popAf => runPopAf
  | .aluReg op r => runAluReg op r
  | .aluAtHl op => runAluAtHl op
  | .aluImm op n => runAluImm op n
  | .incReg r => runIncReg r
  | .incAtHl => runIncAtHl
  | .decReg r => runDecReg r
  | .decAtHl => runDecAtHl
  | .daa => runDaa
  | .cpl => runCpl
  | .scf => runScf
  | .ccf => runCcf
  | .addHlPair p => runAddHlPair p
  | .incPair p => runIncPair p
  | .decPair p => runDecPair p
  | .addSpOffset e => runAddSpOffset e
  | .rlca => runRlca
  | .rrca => runRrca
  | .rla => runRla
  | .rra => runRra
  | .rotReg op r => runRotReg op r
  | .rotAtHl op => runRotAtHl op
  | .bitReg i r => runBitReg i r
  | .bitAtHl i => runBitAtHl i
  | .resReg i r => runResReg i r
  | .resAtHl i => runResAtHl i
  | .setReg i r => runSetReg i r
  | .setAtHl i => runSetAtHl i
  | .jpAbs w => runJpAbs w
  | .jpCond cc w => runJpCond cc w
  | .jpHl => runJpHl
  | .jrRel e => runJrRel e
  | .jrCond cc e => runJrCond cc e
  | .callAbs w => runCallAbs w
  | .callCond cc w => runCallCond cc w
  | .ret => runRet
  | .retCond cc => runRetCond cc
  | .reti => runReti
  | .rst t => runRst t
  | .nop => runNop
  | .halt => runHalt
  | .stop pad => runStop pad
  | .di => runDi
  | .ei => runEi
  | .illegal b => runIllegal b

/-- The effect of an instruction. -/
def Instr.effect : Instr → Effect
  | .illegal b => .illegal b
  | .nop => .nop
  | .ldBcD16 w => .ldPairImm .bc w
  | .ldAtBcA => .ldAtBcAcc
  | .incBc => .incPair .bc
  | .incB => .incReg .b
  | .decB => .decReg .b
  | .ldBD8 n => .ldRegImm .b n
  | .rlca => .rlca
  | .ldAtA16Sp w => .ldAtAbsSp w
  | .addHlBc => .addHlPair .bc
  | .ldAAtBc => .ldAccAtBc
  | .decBc => .decPair .bc
  | .incC => .incReg .c
  | .decC => .decReg .c
  | .ldCD8 n => .ldRegImm .c n
  | .rrca => .rrca
  | .stop pad => .stop pad
  | .ldDeD16 w => .ldPairImm .de w
  | .ldAtDeA => .ldAtDeAcc
  | .incDe => .incPair .de
  | .incD => .incReg .d
  | .decD => .decReg .d
  | .ldDD8 n => .ldRegImm .d n
  | .rla => .rla
  | .jrR8 e => .jrRel e
  | .addHlDe => .addHlPair .de
  | .ldAAtDe => .ldAccAtDe
  | .decDe => .decPair .de
  | .incE => .incReg .e
  | .decE => .decReg .e
  | .ldED8 n => .ldRegImm .e n
  | .rra => .rra
  | .jrNzR8 e => .jrCond .nz e
  | .ldHlD16 w => .ldPairImm .hl w
  | .ldAtHlIncA => .ldAtHlIncAcc
  | .incHl => .incPair .hl
  | .incH => .incReg .h
  | .decH => .decReg .h
  | .ldHD8 n => .ldRegImm .h n
  | .daa => .daa
  | .jrZR8 e => .jrCond .z e
  | .addHlHl => .addHlPair .hl
  | .ldAAtHlInc => .ldAccAtHlInc
  | .decHl => .decPair .hl
  | .incL => .incReg .l
  | .decL => .decReg .l
  | .ldLD8 n => .ldRegImm .l n
  | .cpl => .cpl
  | .jrNcR8 e => .jrCond .nc e
  | .ldSpD16 w => .ldPairImm .sp w
  | .ldAtHlDecA => .ldAtHlDecAcc
  | .incSp => .incPair .sp
  | .incAtHl => .incAtHl
  | .decAtHl => .decAtHl
  | .ldAtHlD8 n => .ldAtHlImm n
  | .scf => .scf
  | .jrCR8 e => .jrCond .c e
  | .addHlSp => .addHlPair .sp
  | .ldAAtHlDec => .ldAccAtHlDec
  | .decSp => .decPair .sp
  | .incA => .incReg .a
  | .decA => .decReg .a
  | .ldAD8 n => .ldRegImm .a n
  | .ccf => .ccf
  | .ldBB => .ldRegReg .b .b
  | .ldBC => .ldRegReg .b .c
  | .ldBD => .ldRegReg .b .d
  | .ldBE => .ldRegReg .b .e
  | .ldBH => .ldRegReg .b .h
  | .ldBL => .ldRegReg .b .l
  | .ldBAtHl => .ldRegAtHl .b
  | .ldBA => .ldRegReg .b .a
  | .ldCB => .ldRegReg .c .b
  | .ldCC => .ldRegReg .c .c
  | .ldCD => .ldRegReg .c .d
  | .ldCE => .ldRegReg .c .e
  | .ldCH => .ldRegReg .c .h
  | .ldCL => .ldRegReg .c .l
  | .ldCAtHl => .ldRegAtHl .c
  | .ldCA => .ldRegReg .c .a
  | .ldDB => .ldRegReg .d .b
  | .ldDC => .ldRegReg .d .c
  | .ldDD => .ldRegReg .d .d
  | .ldDE => .ldRegReg .d .e
  | .ldDH => .ldRegReg .d .h
  | .ldDL => .ldRegReg .d .l
  | .ldDAtHl => .ldRegAtHl .d
  | .ldDA => .ldRegReg .d .a
  | .ldEB => .ldRegReg .e .b
  | .ldEC => .ldRegReg .e .c
  | .ldED => .ldRegReg .e .d
  | .ldEE => .ldRegReg .e .e
  | .ldEH => .ldRegReg .e .h
  | .ldEL => .ldRegReg .e .l
  | .ldEAtHl => .ldRegAtHl .e
  | .ldEA => .ldRegReg .e .a
  | .ldHB => .ldRegReg .h .b
  | .ldHC => .ldRegReg .h .c
  | .ldHD => .ldRegReg .h .d
  | .ldHE => .ldRegReg .h .e
  | .ldHH => .ldRegReg .h .h
  | .ldHL => .ldRegReg .h .l
  | .ldHAtHl => .ldRegAtHl .h
  | .ldHA => .ldRegReg .h .a
  | .ldLB => .ldRegReg .l .b
  | .ldLC => .ldRegReg .l .c
  | .ldLD => .ldRegReg .l .d
  | .ldLE => .ldRegReg .l .e
  | .ldLH => .ldRegReg .l .h
  | .ldLL => .ldRegReg .l .l
  | .ldLAtHl => .ldRegAtHl .l
  | .ldLA => .ldRegReg .l .a
  | .ldAtHlB => .ldAtHlReg .b
  | .ldAtHlC => .ldAtHlReg .c
  | .ldAtHlD => .ldAtHlReg .d
  | .ldAtHlE => .ldAtHlReg .e
  | .ldAtHlH => .ldAtHlReg .h
  | .ldAtHlL => .ldAtHlReg .l
  | .halt => .halt
  | .ldAtHlA => .ldAtHlReg .a
  | .ldAB => .ldRegReg .a .b
  | .ldAC => .ldRegReg .a .c
  | .ldAD => .ldRegReg .a .d
  | .ldAE => .ldRegReg .a .e
  | .ldAH => .ldRegReg .a .h
  | .ldAL => .ldRegReg .a .l
  | .ldAAtHl => .ldRegAtHl .a
  | .ldAA => .ldRegReg .a .a
  | .addAB => .aluReg .add .b
  | .addAC => .aluReg .add .c
  | .addAD => .aluReg .add .d
  | .addAE => .aluReg .add .e
  | .addAH => .aluReg .add .h
  | .addAL => .aluReg .add .l
  | .addAAtHl => .aluAtHl .add
  | .addAA => .aluReg .add .a
  | .adcAB => .aluReg .adc .b
  | .adcAC => .aluReg .adc .c
  | .adcAD => .aluReg .adc .d
  | .adcAE => .aluReg .adc .e
  | .adcAH => .aluReg .adc .h
  | .adcAL => .aluReg .adc .l
  | .adcAAtHl => .aluAtHl .adc
  | .adcAA => .aluReg .adc .a
  | .subB => .aluReg .sub .b
  | .subC => .aluReg .sub .c
  | .subD => .aluReg .sub .d
  | .subE => .aluReg .sub .e
  | .subH => .aluReg .sub .h
  | .subL => .aluReg .sub .l
  | .subAtHl => .aluAtHl .sub
  | .subA => .aluReg .sub .a
  | .sbcAB => .aluReg .sbc .b
  | .sbcAC => .aluReg .sbc .c
  | .sbcAD => .aluReg .sbc .d
  | .sbcAE => .aluReg .sbc .e
  | .sbcAH => .aluReg .sbc .h
  | .sbcAL => .aluReg .sbc .l
  | .sbcAAtHl => .aluAtHl .sbc
  | .sbcAA => .aluReg .sbc .a
  | .andB => .aluReg .and .b
  | .andC => .aluReg .and .c
  | .andD => .aluReg .and .d
  | .andE => .aluReg .and .e
  | .andH => .aluReg .and .h
  | .andL => .aluReg .and .l
  | .andAtHl => .aluAtHl .and
  | .andA => .aluReg .and .a
  | .xorB => .aluReg .xor .b
  | .xorC => .aluReg .xor .c
  | .xorD => .aluReg .xor .d
  | .xorE => .aluReg .xor .e
  | .xorH => .aluReg .xor .h
  | .xorL => .aluReg .xor .l
  | .xorAtHl => .aluAtHl .xor
  | .xorA => .aluReg .xor .a
  | .orB => .aluReg .or .b
  | .orC => .aluReg .or .c
  | .orD => .aluReg .or .d
  | .orE => .aluReg .or .e
  | .orH => .aluReg .or .h
  | .orL => .aluReg .or .l
  | .orAtHl => .aluAtHl .or
  | .orA => .aluReg .or .a
  | .cpB => .aluReg .cp .b
  | .cpC => .aluReg .cp .c
  | .cpD => .aluReg .cp .d
  | .cpE => .aluReg .cp .e
  | .cpH => .aluReg .cp .h
  | .cpL => .aluReg .cp .l
  | .cpAtHl => .aluAtHl .cp
  | .cpA => .aluReg .cp .a
  | .retNz => .retCond .nz
  | .popBc => .popPair .bc
  | .jpNzA16 w => .jpCond .nz w
  | .jpA16 w => .jpAbs w
  | .callNzA16 w => .callCond .nz w
  | .pushBc => .pushPair .bc
  | .addAD8 n => .aluImm .add n
  | .rst00 => .rst .i0
  | .retZ => .retCond .z
  | .ret => .ret
  | .jpZA16 w => .jpCond .z w
  | .callZA16 w => .callCond .z w
  | .callA16 w => .callAbs w
  | .adcAD8 n => .aluImm .adc n
  | .rst08 => .rst .i1
  | .retNc => .retCond .nc
  | .popDe => .popPair .de
  | .jpNcA16 w => .jpCond .nc w
  | .callNcA16 w => .callCond .nc w
  | .pushDe => .pushPair .de
  | .subD8 n => .aluImm .sub n
  | .rst10 => .rst .i2
  | .retC => .retCond .c
  | .reti => .reti
  | .jpCA16 w => .jpCond .c w
  | .callCA16 w => .callCond .c w
  | .sbcAD8 n => .aluImm .sbc n
  | .rst18 => .rst .i3
  | .ldhAtA8A n => .ldAtHighAcc n
  | .popHl => .popPair .hl
  | .ldAtCA => .ldAtCAcc
  | .pushHl => .pushPair .hl
  | .andD8 n => .aluImm .and n
  | .rst20 => .rst .i4
  | .addSpR8 e => .addSpOffset e
  | .jpAtHl => .jpHl
  | .ldAtA16A w => .ldAtAbsAcc w
  | .xorD8 n => .aluImm .xor n
  | .rst28 => .rst .i5
  | .ldhAAtA8 n => .ldAccAtHigh n
  | .popAf => .popAf
  | .ldAAtC => .ldAccAtC
  | .di => .di
  | .pushAf => .pushAf
  | .orD8 n => .aluImm .or n
  | .rst30 => .rst .i6
  | .ldHlSpR8 e => .ldHlSpOffset e
  | .ldSpHl => .ldSpFromHl
  | .ldAAtA16 w => .ldAccAtAbs w
  | .ei => .ei
  | .cpD8 n => .aluImm .cp n
  | .rst38 => .rst .i7
  | .rlcB => .rotReg .rlc .b
  | .rlcC => .rotReg .rlc .c
  | .rlcD => .rotReg .rlc .d
  | .rlcE => .rotReg .rlc .e
  | .rlcH => .rotReg .rlc .h
  | .rlcL => .rotReg .rlc .l
  | .rlcAtHl => .rotAtHl .rlc
  | .rlcA => .rotReg .rlc .a
  | .rrcB => .rotReg .rrc .b
  | .rrcC => .rotReg .rrc .c
  | .rrcD => .rotReg .rrc .d
  | .rrcE => .rotReg .rrc .e
  | .rrcH => .rotReg .rrc .h
  | .rrcL => .rotReg .rrc .l
  | .rrcAtHl => .rotAtHl .rrc
  | .rrcA => .rotReg .rrc .a
  | .rlB => .rotReg .rl .b
  | .rlC => .rotReg .rl .c
  | .rlD => .rotReg .rl .d
  | .rlE => .rotReg .rl .e
  | .rlH => .rotReg .rl .h
  | .rlL => .rotReg .rl .l
  | .rlAtHl => .rotAtHl .rl
  | .rlA => .rotReg .rl .a
  | .rrB => .rotReg .rr .b
  | .rrC => .rotReg .rr .c
  | .rrD => .rotReg .rr .d
  | .rrE => .rotReg .rr .e
  | .rrH => .rotReg .rr .h
  | .rrL => .rotReg .rr .l
  | .rrAtHl => .rotAtHl .rr
  | .rrA => .rotReg .rr .a
  | .slaB => .rotReg .sla .b
  | .slaC => .rotReg .sla .c
  | .slaD => .rotReg .sla .d
  | .slaE => .rotReg .sla .e
  | .slaH => .rotReg .sla .h
  | .slaL => .rotReg .sla .l
  | .slaAtHl => .rotAtHl .sla
  | .slaA => .rotReg .sla .a
  | .sraB => .rotReg .sra .b
  | .sraC => .rotReg .sra .c
  | .sraD => .rotReg .sra .d
  | .sraE => .rotReg .sra .e
  | .sraH => .rotReg .sra .h
  | .sraL => .rotReg .sra .l
  | .sraAtHl => .rotAtHl .sra
  | .sraA => .rotReg .sra .a
  | .swapB => .rotReg .swap .b
  | .swapC => .rotReg .swap .c
  | .swapD => .rotReg .swap .d
  | .swapE => .rotReg .swap .e
  | .swapH => .rotReg .swap .h
  | .swapL => .rotReg .swap .l
  | .swapAtHl => .rotAtHl .swap
  | .swapA => .rotReg .swap .a
  | .srlB => .rotReg .srl .b
  | .srlC => .rotReg .srl .c
  | .srlD => .rotReg .srl .d
  | .srlE => .rotReg .srl .e
  | .srlH => .rotReg .srl .h
  | .srlL => .rotReg .srl .l
  | .srlAtHl => .rotAtHl .srl
  | .srlA => .rotReg .srl .a
  | .bit0B => .bitReg .i0 .b
  | .bit0C => .bitReg .i0 .c
  | .bit0D => .bitReg .i0 .d
  | .bit0E => .bitReg .i0 .e
  | .bit0H => .bitReg .i0 .h
  | .bit0L => .bitReg .i0 .l
  | .bit0AtHl => .bitAtHl .i0
  | .bit0A => .bitReg .i0 .a
  | .bit1B => .bitReg .i1 .b
  | .bit1C => .bitReg .i1 .c
  | .bit1D => .bitReg .i1 .d
  | .bit1E => .bitReg .i1 .e
  | .bit1H => .bitReg .i1 .h
  | .bit1L => .bitReg .i1 .l
  | .bit1AtHl => .bitAtHl .i1
  | .bit1A => .bitReg .i1 .a
  | .bit2B => .bitReg .i2 .b
  | .bit2C => .bitReg .i2 .c
  | .bit2D => .bitReg .i2 .d
  | .bit2E => .bitReg .i2 .e
  | .bit2H => .bitReg .i2 .h
  | .bit2L => .bitReg .i2 .l
  | .bit2AtHl => .bitAtHl .i2
  | .bit2A => .bitReg .i2 .a
  | .bit3B => .bitReg .i3 .b
  | .bit3C => .bitReg .i3 .c
  | .bit3D => .bitReg .i3 .d
  | .bit3E => .bitReg .i3 .e
  | .bit3H => .bitReg .i3 .h
  | .bit3L => .bitReg .i3 .l
  | .bit3AtHl => .bitAtHl .i3
  | .bit3A => .bitReg .i3 .a
  | .bit4B => .bitReg .i4 .b
  | .bit4C => .bitReg .i4 .c
  | .bit4D => .bitReg .i4 .d
  | .bit4E => .bitReg .i4 .e
  | .bit4H => .bitReg .i4 .h
  | .bit4L => .bitReg .i4 .l
  | .bit4AtHl => .bitAtHl .i4
  | .bit4A => .bitReg .i4 .a
  | .bit5B => .bitReg .i5 .b
  | .bit5C => .bitReg .i5 .c
  | .bit5D => .bitReg .i5 .d
  | .bit5E => .bitReg .i5 .e
  | .bit5H => .bitReg .i5 .h
  | .bit5L => .bitReg .i5 .l
  | .bit5AtHl => .bitAtHl .i5
  | .bit5A => .bitReg .i5 .a
  | .bit6B => .bitReg .i6 .b
  | .bit6C => .bitReg .i6 .c
  | .bit6D => .bitReg .i6 .d
  | .bit6E => .bitReg .i6 .e
  | .bit6H => .bitReg .i6 .h
  | .bit6L => .bitReg .i6 .l
  | .bit6AtHl => .bitAtHl .i6
  | .bit6A => .bitReg .i6 .a
  | .bit7B => .bitReg .i7 .b
  | .bit7C => .bitReg .i7 .c
  | .bit7D => .bitReg .i7 .d
  | .bit7E => .bitReg .i7 .e
  | .bit7H => .bitReg .i7 .h
  | .bit7L => .bitReg .i7 .l
  | .bit7AtHl => .bitAtHl .i7
  | .bit7A => .bitReg .i7 .a
  | .res0B => .resReg .i0 .b
  | .res0C => .resReg .i0 .c
  | .res0D => .resReg .i0 .d
  | .res0E => .resReg .i0 .e
  | .res0H => .resReg .i0 .h
  | .res0L => .resReg .i0 .l
  | .res0AtHl => .resAtHl .i0
  | .res0A => .resReg .i0 .a
  | .res1B => .resReg .i1 .b
  | .res1C => .resReg .i1 .c
  | .res1D => .resReg .i1 .d
  | .res1E => .resReg .i1 .e
  | .res1H => .resReg .i1 .h
  | .res1L => .resReg .i1 .l
  | .res1AtHl => .resAtHl .i1
  | .res1A => .resReg .i1 .a
  | .res2B => .resReg .i2 .b
  | .res2C => .resReg .i2 .c
  | .res2D => .resReg .i2 .d
  | .res2E => .resReg .i2 .e
  | .res2H => .resReg .i2 .h
  | .res2L => .resReg .i2 .l
  | .res2AtHl => .resAtHl .i2
  | .res2A => .resReg .i2 .a
  | .res3B => .resReg .i3 .b
  | .res3C => .resReg .i3 .c
  | .res3D => .resReg .i3 .d
  | .res3E => .resReg .i3 .e
  | .res3H => .resReg .i3 .h
  | .res3L => .resReg .i3 .l
  | .res3AtHl => .resAtHl .i3
  | .res3A => .resReg .i3 .a
  | .res4B => .resReg .i4 .b
  | .res4C => .resReg .i4 .c
  | .res4D => .resReg .i4 .d
  | .res4E => .resReg .i4 .e
  | .res4H => .resReg .i4 .h
  | .res4L => .resReg .i4 .l
  | .res4AtHl => .resAtHl .i4
  | .res4A => .resReg .i4 .a
  | .res5B => .resReg .i5 .b
  | .res5C => .resReg .i5 .c
  | .res5D => .resReg .i5 .d
  | .res5E => .resReg .i5 .e
  | .res5H => .resReg .i5 .h
  | .res5L => .resReg .i5 .l
  | .res5AtHl => .resAtHl .i5
  | .res5A => .resReg .i5 .a
  | .res6B => .resReg .i6 .b
  | .res6C => .resReg .i6 .c
  | .res6D => .resReg .i6 .d
  | .res6E => .resReg .i6 .e
  | .res6H => .resReg .i6 .h
  | .res6L => .resReg .i6 .l
  | .res6AtHl => .resAtHl .i6
  | .res6A => .resReg .i6 .a
  | .res7B => .resReg .i7 .b
  | .res7C => .resReg .i7 .c
  | .res7D => .resReg .i7 .d
  | .res7E => .resReg .i7 .e
  | .res7H => .resReg .i7 .h
  | .res7L => .resReg .i7 .l
  | .res7AtHl => .resAtHl .i7
  | .res7A => .resReg .i7 .a
  | .set0B => .setReg .i0 .b
  | .set0C => .setReg .i0 .c
  | .set0D => .setReg .i0 .d
  | .set0E => .setReg .i0 .e
  | .set0H => .setReg .i0 .h
  | .set0L => .setReg .i0 .l
  | .set0AtHl => .setAtHl .i0
  | .set0A => .setReg .i0 .a
  | .set1B => .setReg .i1 .b
  | .set1C => .setReg .i1 .c
  | .set1D => .setReg .i1 .d
  | .set1E => .setReg .i1 .e
  | .set1H => .setReg .i1 .h
  | .set1L => .setReg .i1 .l
  | .set1AtHl => .setAtHl .i1
  | .set1A => .setReg .i1 .a
  | .set2B => .setReg .i2 .b
  | .set2C => .setReg .i2 .c
  | .set2D => .setReg .i2 .d
  | .set2E => .setReg .i2 .e
  | .set2H => .setReg .i2 .h
  | .set2L => .setReg .i2 .l
  | .set2AtHl => .setAtHl .i2
  | .set2A => .setReg .i2 .a
  | .set3B => .setReg .i3 .b
  | .set3C => .setReg .i3 .c
  | .set3D => .setReg .i3 .d
  | .set3E => .setReg .i3 .e
  | .set3H => .setReg .i3 .h
  | .set3L => .setReg .i3 .l
  | .set3AtHl => .setAtHl .i3
  | .set3A => .setReg .i3 .a
  | .set4B => .setReg .i4 .b
  | .set4C => .setReg .i4 .c
  | .set4D => .setReg .i4 .d
  | .set4E => .setReg .i4 .e
  | .set4H => .setReg .i4 .h
  | .set4L => .setReg .i4 .l
  | .set4AtHl => .setAtHl .i4
  | .set4A => .setReg .i4 .a
  | .set5B => .setReg .i5 .b
  | .set5C => .setReg .i5 .c
  | .set5D => .setReg .i5 .d
  | .set5E => .setReg .i5 .e
  | .set5H => .setReg .i5 .h
  | .set5L => .setReg .i5 .l
  | .set5AtHl => .setAtHl .i5
  | .set5A => .setReg .i5 .a
  | .set6B => .setReg .i6 .b
  | .set6C => .setReg .i6 .c
  | .set6D => .setReg .i6 .d
  | .set6E => .setReg .i6 .e
  | .set6H => .setReg .i6 .h
  | .set6L => .setReg .i6 .l
  | .set6AtHl => .setAtHl .i6
  | .set6A => .setReg .i6 .a
  | .set7B => .setReg .i7 .b
  | .set7C => .setReg .i7 .c
  | .set7D => .setReg .i7 .d
  | .set7E => .setReg .i7 .e
  | .set7H => .setReg .i7 .h
  | .set7L => .setReg .i7 .l
  | .set7AtHl => .setAtHl .i7
  | .set7A => .setReg .i7 .a

/-- Every instruction is the instruction of its effect. -/
theorem instr_effect (i : Instr) : (Instr.effect i).instr = i := by
  cases i <;> rfl

/-- `exec` is the shared operation of the instruction's effect. -/
theorem exec_eq_run (i : Instr) (s : State) : exec i s = Effect.run (Instr.effect i) s := by
  cases i <;> rfl

/-- An effect with the field values of an instruction is that instruction's effect. -/
theorem effect_instr (e : Effect) : Instr.effect e.instr = e := by
  cases e with
  | ldRegReg r q => cases r <;> cases q <;> rfl
  | ldRegImm r n => cases r <;> rfl
  | ldRegAtHl r => cases r <;> rfl
  | ldAtHlReg r => cases r <;> rfl
  | ldAtHlImm n => rfl
  | ldAccAtBc => rfl
  | ldAccAtDe => rfl
  | ldAtBcAcc => rfl
  | ldAtDeAcc => rfl
  | ldAccAtAbs w => rfl
  | ldAtAbsAcc w => rfl
  | ldAccAtHigh n => rfl
  | ldAtHighAcc n => rfl
  | ldAccAtC => rfl
  | ldAtCAcc => rfl
  | ldAtHlIncAcc => rfl
  | ldAccAtHlInc => rfl
  | ldAtHlDecAcc => rfl
  | ldAccAtHlDec => rfl
  | ldPairImm p w => cases p <;> rfl
  | ldAtAbsSp w => rfl
  | ldSpFromHl => rfl
  | ldHlSpOffset e => rfl
  | pushPair p => cases p <;> rfl
  | pushAf => rfl
  | popPair p => cases p <;> rfl
  | popAf => rfl
  | aluReg op r => cases op <;> cases r <;> rfl
  | aluAtHl op => cases op <;> rfl
  | aluImm op n => cases op <;> rfl
  | incReg r => cases r <;> rfl
  | incAtHl => rfl
  | decReg r => cases r <;> rfl
  | decAtHl => rfl
  | daa => rfl
  | cpl => rfl
  | scf => rfl
  | ccf => rfl
  | addHlPair p => cases p <;> rfl
  | incPair p => cases p <;> rfl
  | decPair p => cases p <;> rfl
  | addSpOffset e => rfl
  | rlca => rfl
  | rrca => rfl
  | rla => rfl
  | rra => rfl
  | rotReg op r => cases op <;> cases r <;> rfl
  | rotAtHl op => cases op <;> rfl
  | bitReg i r => cases i <;> cases r <;> rfl
  | bitAtHl i => cases i <;> rfl
  | resReg i r => cases i <;> cases r <;> rfl
  | resAtHl i => cases i <;> rfl
  | setReg i r => cases i <;> cases r <;> rfl
  | setAtHl i => cases i <;> rfl
  | jpAbs w => rfl
  | jpCond cc w => cases cc <;> rfl
  | jpHl => rfl
  | jrRel e => rfl
  | jrCond cc e => cases cc <;> rfl
  | callAbs w => rfl
  | callCond cc w => cases cc <;> rfl
  | ret => rfl
  | retCond cc => cases cc <;> rfl
  | reti => rfl
  | rst t => cases t <;> rfl
  | nop => rfl
  | halt => rfl
  | stop pad => rfl
  | di => rfl
  | ei => rfl
  | illegal b => rfl

/-- What `exec` does with the instruction of an effect. -/
theorem exec_instr (e : Effect) (s : State) : exec e.instr s = Effect.run e s := by
  rw [exec_eq_run, effect_instr]

theorem exec_ldRegRegOf (r : Reg) (q : Reg) (s : State) : exec (Instr.ldRegRegOf r q) s = runLdRegReg r q s := exec_instr (.ldRegReg r q) s
theorem exec_ldRegImmOf (r : Reg) (n : Byte) (s : State) : exec (Instr.ldRegImmOf r n) s = runLdRegImm r n s := exec_instr (.ldRegImm r n) s
theorem exec_ldRegAtHlOf (r : Reg) (s : State) : exec (Instr.ldRegAtHlOf r) s = runLdRegAtHl r s := exec_instr (.ldRegAtHl r) s
theorem exec_ldAtHlRegOf (r : Reg) (s : State) : exec (Instr.ldAtHlRegOf r) s = runLdAtHlReg r s := exec_instr (.ldAtHlReg r) s
theorem exec_ldAtHlImmOf (n : Byte) (s : State) : exec (Instr.ldAtHlImmOf n) s = runLdAtHlImm n s := exec_instr (.ldAtHlImm n) s
theorem exec_ldAccAtBcOf (s : State) : exec Instr.ldAccAtBcOf s = runLdAccAtBc s := exec_instr .ldAccAtBc s
theorem exec_ldAccAtDeOf (s : State) : exec Instr.ldAccAtDeOf s = runLdAccAtDe s := exec_instr .ldAccAtDe s
theorem exec_ldAtBcAccOf (s : State) : exec Instr.ldAtBcAccOf s = runLdAtBcAcc s := exec_instr .ldAtBcAcc s
theorem exec_ldAtDeAccOf (s : State) : exec Instr.ldAtDeAccOf s = runLdAtDeAcc s := exec_instr .ldAtDeAcc s
theorem exec_ldAccAtAbsOf (w : Word) (s : State) : exec (Instr.ldAccAtAbsOf w) s = runLdAccAtAbs w s := exec_instr (.ldAccAtAbs w) s
theorem exec_ldAtAbsAccOf (w : Word) (s : State) : exec (Instr.ldAtAbsAccOf w) s = runLdAtAbsAcc w s := exec_instr (.ldAtAbsAcc w) s
theorem exec_ldAccAtHighOf (n : Byte) (s : State) : exec (Instr.ldAccAtHighOf n) s = runLdAccAtHigh n s := exec_instr (.ldAccAtHigh n) s
theorem exec_ldAtHighAccOf (n : Byte) (s : State) : exec (Instr.ldAtHighAccOf n) s = runLdAtHighAcc n s := exec_instr (.ldAtHighAcc n) s
theorem exec_ldAccAtCOf (s : State) : exec Instr.ldAccAtCOf s = runLdAccAtC s := exec_instr .ldAccAtC s
theorem exec_ldAtCAccOf (s : State) : exec Instr.ldAtCAccOf s = runLdAtCAcc s := exec_instr .ldAtCAcc s
theorem exec_ldAtHlIncAccOf (s : State) : exec Instr.ldAtHlIncAccOf s = runLdAtHlIncAcc s := exec_instr .ldAtHlIncAcc s
theorem exec_ldAccAtHlIncOf (s : State) : exec Instr.ldAccAtHlIncOf s = runLdAccAtHlInc s := exec_instr .ldAccAtHlInc s
theorem exec_ldAtHlDecAccOf (s : State) : exec Instr.ldAtHlDecAccOf s = runLdAtHlDecAcc s := exec_instr .ldAtHlDecAcc s
theorem exec_ldAccAtHlDecOf (s : State) : exec Instr.ldAccAtHlDecOf s = runLdAccAtHlDec s := exec_instr .ldAccAtHlDec s
theorem exec_ldPairImmOf (p : Pair) (w : Word) (s : State) : exec (Instr.ldPairImmOf p w) s = runLdPairImm p w s := exec_instr (.ldPairImm p w) s
theorem exec_ldAtAbsSpOf (w : Word) (s : State) : exec (Instr.ldAtAbsSpOf w) s = runLdAtAbsSp w s := exec_instr (.ldAtAbsSp w) s
theorem exec_ldSpFromHlOf (s : State) : exec Instr.ldSpFromHlOf s = runLdSpFromHl s := exec_instr .ldSpFromHl s
theorem exec_ldHlSpOffsetOf (e : Byte) (s : State) : exec (Instr.ldHlSpOffsetOf e) s = runLdHlSpOffset e s := exec_instr (.ldHlSpOffset e) s
theorem exec_pushPairOf (p : StackPair) (s : State) : exec (Instr.pushPairOf p) s = runPushPair p s := exec_instr (.pushPair p) s
theorem exec_pushAfOf (s : State) : exec Instr.pushAfOf s = runPushAf s := exec_instr .pushAf s
theorem exec_popPairOf (p : StackPair) (s : State) : exec (Instr.popPairOf p) s = runPopPair p s := exec_instr (.popPair p) s
theorem exec_popAfOf (s : State) : exec Instr.popAfOf s = runPopAf s := exec_instr .popAf s
theorem exec_aluRegOf (op : AluOp) (r : Reg) (s : State) : exec (Instr.aluRegOf op r) s = runAluReg op r s := exec_instr (.aluReg op r) s
theorem exec_aluAtHlOf (op : AluOp) (s : State) : exec (Instr.aluAtHlOf op) s = runAluAtHl op s := exec_instr (.aluAtHl op) s
theorem exec_aluImmOf (op : AluOp) (n : Byte) (s : State) : exec (Instr.aluImmOf op n) s = runAluImm op n s := exec_instr (.aluImm op n) s
theorem exec_incRegOf (r : Reg) (s : State) : exec (Instr.incRegOf r) s = runIncReg r s := exec_instr (.incReg r) s
theorem exec_incAtHlOf (s : State) : exec Instr.incAtHlOf s = runIncAtHl s := exec_instr .incAtHl s
theorem exec_decRegOf (r : Reg) (s : State) : exec (Instr.decRegOf r) s = runDecReg r s := exec_instr (.decReg r) s
theorem exec_decAtHlOf (s : State) : exec Instr.decAtHlOf s = runDecAtHl s := exec_instr .decAtHl s
theorem exec_daaOf (s : State) : exec Instr.daaOf s = runDaa s := exec_instr .daa s
theorem exec_cplOf (s : State) : exec Instr.cplOf s = runCpl s := exec_instr .cpl s
theorem exec_scfOf (s : State) : exec Instr.scfOf s = runScf s := exec_instr .scf s
theorem exec_ccfOf (s : State) : exec Instr.ccfOf s = runCcf s := exec_instr .ccf s
theorem exec_addHlPairOf (p : Pair) (s : State) : exec (Instr.addHlPairOf p) s = runAddHlPair p s := exec_instr (.addHlPair p) s
theorem exec_incPairOf (p : Pair) (s : State) : exec (Instr.incPairOf p) s = runIncPair p s := exec_instr (.incPair p) s
theorem exec_decPairOf (p : Pair) (s : State) : exec (Instr.decPairOf p) s = runDecPair p s := exec_instr (.decPair p) s
theorem exec_addSpOffsetOf (e : Byte) (s : State) : exec (Instr.addSpOffsetOf e) s = runAddSpOffset e s := exec_instr (.addSpOffset e) s
theorem exec_rlcaOf (s : State) : exec Instr.rlcaOf s = runRlca s := exec_instr .rlca s
theorem exec_rrcaOf (s : State) : exec Instr.rrcaOf s = runRrca s := exec_instr .rrca s
theorem exec_rlaOf (s : State) : exec Instr.rlaOf s = runRla s := exec_instr .rla s
theorem exec_rraOf (s : State) : exec Instr.rraOf s = runRra s := exec_instr .rra s
theorem exec_rotRegOf (op : RotOp) (r : Reg) (s : State) : exec (Instr.rotRegOf op r) s = runRotReg op r s := exec_instr (.rotReg op r) s
theorem exec_rotAtHlOf (op : RotOp) (s : State) : exec (Instr.rotAtHlOf op) s = runRotAtHl op s := exec_instr (.rotAtHl op) s
theorem exec_bitRegOf (i : Idx8) (r : Reg) (s : State) : exec (Instr.bitRegOf i r) s = runBitReg i r s := exec_instr (.bitReg i r) s
theorem exec_bitAtHlOf (i : Idx8) (s : State) : exec (Instr.bitAtHlOf i) s = runBitAtHl i s := exec_instr (.bitAtHl i) s
theorem exec_resRegOf (i : Idx8) (r : Reg) (s : State) : exec (Instr.resRegOf i r) s = runResReg i r s := exec_instr (.resReg i r) s
theorem exec_resAtHlOf (i : Idx8) (s : State) : exec (Instr.resAtHlOf i) s = runResAtHl i s := exec_instr (.resAtHl i) s
theorem exec_setRegOf (i : Idx8) (r : Reg) (s : State) : exec (Instr.setRegOf i r) s = runSetReg i r s := exec_instr (.setReg i r) s
theorem exec_setAtHlOf (i : Idx8) (s : State) : exec (Instr.setAtHlOf i) s = runSetAtHl i s := exec_instr (.setAtHl i) s
theorem exec_jpAbsOf (w : Word) (s : State) : exec (Instr.jpAbsOf w) s = runJpAbs w s := exec_instr (.jpAbs w) s
theorem exec_jpCondOf (cc : Cond) (w : Word) (s : State) : exec (Instr.jpCondOf cc w) s = runJpCond cc w s := exec_instr (.jpCond cc w) s
theorem exec_jpHlOf (s : State) : exec Instr.jpHlOf s = runJpHl s := exec_instr .jpHl s
theorem exec_jrRelOf (e : Byte) (s : State) : exec (Instr.jrRelOf e) s = runJrRel e s := exec_instr (.jrRel e) s
theorem exec_jrCondOf (cc : Cond) (e : Byte) (s : State) : exec (Instr.jrCondOf cc e) s = runJrCond cc e s := exec_instr (.jrCond cc e) s
theorem exec_callAbsOf (w : Word) (s : State) : exec (Instr.callAbsOf w) s = runCallAbs w s := exec_instr (.callAbs w) s
theorem exec_callCondOf (cc : Cond) (w : Word) (s : State) : exec (Instr.callCondOf cc w) s = runCallCond cc w s := exec_instr (.callCond cc w) s
theorem exec_retOf (s : State) : exec Instr.retOf s = runRet s := exec_instr .ret s
theorem exec_retCondOf (cc : Cond) (s : State) : exec (Instr.retCondOf cc) s = runRetCond cc s := exec_instr (.retCond cc) s
theorem exec_retiOf (s : State) : exec Instr.retiOf s = runReti s := exec_instr .reti s
theorem exec_rstOf (t : Idx8) (s : State) : exec (Instr.rstOf t) s = runRst t s := exec_instr (.rst t) s
theorem exec_nopOf (s : State) : exec Instr.nopOf s = runNop s := exec_instr .nop s
theorem exec_haltOf (s : State) : exec Instr.haltOf s = runHalt s := exec_instr .halt s
theorem exec_stopOf (pad : Byte) (s : State) : exec (Instr.stopOf pad) s = runStop pad s := exec_instr (.stop pad) s
theorem exec_diOf (s : State) : exec Instr.diOf s = runDi s := exec_instr .di s
theorem exec_eiOf (s : State) : exec Instr.eiOf s = runEi s := exec_instr .ei s

end Sys2Proof.Machine
end

