-- ==== Sys2Proof/Laws/Memory.lean ====
section
/-! SUPPORT. The laws of the backing store: a read after a write, and that every operation keeps the
canonical form. -/

namespace Sys2Proof.Machine

theorem Memory.read_erase_same (m : Memory) (a : Nat) : Memory.read (Memory.erase m a) a = unwrittenByte := by
  induction m with
  | nil => rfl
  | cons e m ih =>
    obtain ⟨k, w⟩ := e
    by_cases h : k = a
    · simpa [Memory.erase, h] using ih
    · simpa [Memory.erase, Memory.read, h] using ih

theorem Memory.read_erase_other (m : Memory) (a b : Nat) (h : b ≠ a) :
    Memory.read (Memory.erase m a) b = Memory.read m b := by
  induction m with
  | nil => rfl
  | cons e m ih =>
    obtain ⟨k, w⟩ := e
    by_cases hk : k = a
    · have : k ≠ b := fun hb => h (hb ▸ hk)
      rw [Memory.erase, if_pos hk, ih, Memory.read, if_neg this]
    · simp only [Memory.erase, hk, if_false, Memory.read, ih]

/-- An inserted byte is read back where its address was not listed. -/
theorem Memory.read_insert_same (m : Memory) (a : Nat) (v : Byte) (h : ∀ e ∈ m, e.1 ≠ a) :
    Memory.read (Memory.insert m a v) a = v := by
  induction m with
  | nil => simp [Memory.insert, Memory.read]
  | cons e m ih =>
    obtain ⟨k, w⟩ := e
    have hk : k ≠ a := h (k, w) (by simp)
    by_cases hl : a < k
    · simp [Memory.insert, Memory.read, hl]
    · simpa [Memory.insert, Memory.read, hl, hk] using ih fun e he => h e (by simp [he])

theorem Memory.read_insert_other (m : Memory) (a b : Nat) (v : Byte) (h : b ≠ a) :
    Memory.read (Memory.insert m a v) b = Memory.read m b := by
  induction m with
  | nil => simp [Memory.insert, Memory.read, Ne.symm h]
  | cons e m ih =>
    obtain ⟨k, w⟩ := e
    by_cases hl : a < k
    · simp [Memory.insert, Memory.read, hl, Ne.symm h]
    · simp only [Memory.insert, hl, if_false, Memory.read, ih]

theorem Memory.mem_erase (m : Memory) (a : Nat) : ∀ e ∈ Memory.erase m a, e.1 ≠ a := by
  induction m with
  | nil => simp [Memory.erase]
  | cons e m ih =>
    obtain ⟨k, w⟩ := e
    by_cases hk : k = a
    · simpa [Memory.erase, hk] using ih
    · intro e he
      simp only [Memory.erase, hk, if_false, List.mem_cons] at he
      rcases he with rfl | he
      · exact hk
      · exact ih e he

/-- A read of the address just written gives the byte written (R44, R53), in every store. -/
theorem Memory.read_write_same (m : Memory) (a : Nat) (v : Byte) : (m.write a v).read a = v := by
  unfold Memory.write
  split
  · next h => rw [Memory.read_erase_same, h]
  · exact Memory.read_insert_same _ _ _ (Memory.mem_erase m a)

/-- A write leaves every other address as it was, in every store. -/
theorem Memory.read_write_other (m : Memory) (a b : Nat) (v : Byte) (h : b ≠ a) :
    (m.write a v).read b = m.read b := by
  unfold Memory.write
  split
  · exact Memory.read_erase_other m a b h
  · rw [Memory.read_insert_other _ _ _ _ h, Memory.read_erase_other m a b h]

theorem Memory.wfFrom_mono {m : Memory} {lo hi : Nat} (h : Memory.wfFrom hi m = true) (hl : lo ≤ hi) :
    Memory.wfFrom lo m = true := by
  cases m with
  | nil => rfl
  | cons e m =>
    obtain ⟨k, w⟩ := e
    simp only [Memory.wfFrom, Bool.and_eq_true, decide_eq_true_eq] at h ⊢
    exact ⟨⟨⟨Nat.le_trans hl h.1.1.1, h.1.1.2⟩, h.1.2⟩, h.2⟩

theorem Memory.wfFrom_erase {m : Memory} {lo : Nat} (a : Nat) (h : Memory.wfFrom lo m = true) :
    Memory.wfFrom lo (Memory.erase m a) = true := by
  induction m generalizing lo with
  | nil => rfl
  | cons e m ih =>
    obtain ⟨k, w⟩ := e
    simp only [Memory.wfFrom, Bool.and_eq_true, decide_eq_true_eq] at h
    by_cases hk : k = a
    · rw [Memory.erase, if_pos hk]
      exact Memory.wfFrom_mono (ih h.2) (by omega)
    · simp only [Memory.erase, hk, if_false, Memory.wfFrom, Bool.and_eq_true, decide_eq_true_eq]
      exact ⟨h.1, ih h.2⟩

theorem Memory.wfFrom_insert {m : Memory} {lo a : Nat} {v : Byte} (h : Memory.wfFrom lo m = true)
    (ha : lo ≤ a) (hb : a < 65536) (hv : v ≠ unwrittenByte) (hm : ∀ e ∈ m, e.1 ≠ a) :
    Memory.wfFrom lo (Memory.insert m a v) = true := by
  induction m generalizing lo with
  | nil => simp [Memory.insert, Memory.wfFrom, ha, hb, hv]
  | cons e m ih =>
    obtain ⟨k, w⟩ := e
    have hk : k ≠ a := hm (k, w) (by simp)
    simp only [Memory.wfFrom, Bool.and_eq_true, decide_eq_true_eq] at h
    by_cases hl : a < k
    · simp only [Memory.insert, hl, if_true, Memory.wfFrom, Bool.and_eq_true, decide_eq_true_eq]
      exact ⟨⟨⟨ha, hb⟩, hv⟩, ⟨⟨by omega, h.1.1.2⟩, h.1.2⟩, h.2⟩
    · simp only [Memory.insert, hl, if_false, Memory.wfFrom, Bool.and_eq_true, decide_eq_true_eq]
      exact ⟨h.1, ih h.2 (by omega) fun e he => hm e (by simp [he])⟩

/-- A write of a byte at a 16-bit address keeps the canonical form. -/
theorem Memory.write_wf {m : Memory} {a : Nat} {v : Byte} (h : m.wf = true) (ha : a < 65536) :
    (m.write a v).wf = true := by
  unfold Memory.write
  split
  · exact Memory.wfFrom_erase a h
  · next hv => exact Memory.wfFrom_insert (Memory.wfFrom_erase a h) (Nat.zero_le a) ha hv (Memory.mem_erase m a)

theorem Memory.ofBytes_wfFrom (vs : List Byte) (a : Nat) (h : a + vs.length ≤ 65536) :
    Memory.wfFrom a (Memory.ofBytes a vs) = true := by
  induction vs generalizing a with
  | nil => rfl
  | cons v vs ih =>
    have hl : a + 1 + vs.length ≤ 65536 := by simpa [Nat.add_assoc, Nat.add_comm 1] using h
    by_cases hv : v = unwrittenByte
    · rw [Memory.ofBytes, if_pos hv]
      exact Memory.wfFrom_mono (ih (a + 1) hl) (Nat.le_succ a)
    · simp only [Memory.ofBytes, hv, if_false, Memory.wfFrom, Bool.and_eq_true, decide_eq_true_eq]
      exact ⟨⟨⟨Nat.le_refl a, by omega⟩, hv⟩, ih (a + 1) hl⟩

/-- A boot image that fits is in canonical form (R300). -/
theorem Memory.ofBytes_wf (vs : List Byte) (h : vs.length ≤ 65536) : (Memory.ofBytes 0 vs).wf = true :=
  Memory.ofBytes_wfFrom vs 0 (by simpa using h)

theorem reset_memory_wf : State.reset.mem.wf = true := by decide

/-- A byte read after a byte write, through the state. -/
theorem State.readByte_writeByte (s : State) (a b : Word) (v : Byte) :
    (s.writeByte a v).readByte b = if b = a then v else s.readByte b := by
  unfold State.readByte
  rw [State.writeByte_mem]
  split
  · next h => rw [h, Memory.read_write_same]
  · next h => exact Memory.read_write_other _ _ _ _ fun he => h (BitVec.eq_of_toNat_eq he)

/-- The bytes after a push (R130). -/
theorem State.readByte_push16 (s : State) (v b : Word) :
    (s.push16 v).readByte b =
      if b = s.sp - 2 then loByte v else if b = s.sp - 2 + 1 then hiByte v else s.readByte b := by
  unfold State.push16
  rw [State.readByte_writeByte, State.readByte_writeByte]
  rfl

/-- The bytes after a 16-bit write (R8). -/
theorem State.readByte_writeWord (s : State) (a v b : Word) :
    (s.writeWord a v).readByte b =
      if b = a + 1 then hiByte v else if b = a then loByte v else s.readByte b := by
  unfold State.writeWord
  rw [State.readByte_writeByte, State.readByte_writeByte]

theorem State.writeByte_wf {s : State} {a : Word} {v : Byte} (h : s.mem.wf = true) :
    (s.writeByte a v).mem.wf = true := by
  rw [State.writeByte_mem]; exact Memory.write_wf h a.isLt

theorem State.writeWord_wf {s : State} {a v : Word} (h : s.mem.wf = true) : (s.writeWord a v).mem.wf = true :=
  State.writeByte_wf (State.writeByte_wf h)

theorem State.push16_wf {s : State} {v : Word} (h : s.mem.wf = true) : (s.push16 v).mem.wf = true :=
  State.writeByte_wf (State.writeByte_wf (s := s.setSp (s.sp - 2)) h)

theorem State.placeInstruction_wf {s : State} {x y z : Byte} (h : s.mem.wf = true) :
    (s.placeInstruction x y z).mem.wf = true := by
  rw [State.placeInstruction_mem]
  exact Memory.write_wf (Memory.write_wf (Memory.write_wf h s.pc.isLt) (s.pc + 1).isLt) (s.pc + 2).isLt

/-- In a table of rows with rising, disjoint bounds, an address within a row is in that row alone, and the
row gives its region (R42). -/
theorem regionIn_of_mem {rows : List RegionRow} (hp : rows.Pairwise fun p q => p.last < q.first)
    {r : RegionRow} (hr : r ∈ rows) {n : Nat} (h1 : r.first ≤ n) (h2 : n ≤ r.last) :
    rows.filter (fun r => decide (r.first ≤ n ∧ n ≤ r.last)) = [r] ∧ regionIn rows n = some r.region := by
  induction rows with
  | nil => cases hr
  | cons q rows ih =>
    rw [List.pairwise_cons] at hp
    rcases List.mem_cons.1 hr with rfl | hm
    · have hrest : rows.filter (fun r => decide (r.first ≤ n ∧ n ≤ r.last)) = [] := by
        rw [List.filter_eq_nil_iff]
        intro p hm
        have := hp.1 p hm
        simp only [decide_eq_true_eq]
        omega
      exact ⟨by rw [List.filter_cons_of_pos (by simp [h1, h2]), hrest], by simp [regionIn, h1, h2]⟩
    · have hlt := hp.1 r hm
      have hq : ¬ (q.first ≤ n ∧ n ≤ q.last) := by omega
      simpa [regionIn, hq] using ih hp.2 hm

/-- The rows of the region table rise and do not overlap (R41). -/
theorem regionTable_rising : regionTable.Pairwise fun p q => p.last < q.first := by decide

end Sys2Proof.Machine
end

