-- ==== Sys2Proof/Laws/Ops.lean ====
section
/-! SUPPORT. One lemma for each shared operation: everything it can answer, with every read taken from the
state the instruction starts in.  A proof cites these and does not unfold the operations. -/

namespace Sys2Proof.Machine

/-- R101 `LD r,s`. -/
theorem runLdRegReg_next (r : Reg) (q : Reg) (s : State) :
    runLdRegReg r q s = .next (((s.advance 1).setReg r (s.reg q)).addClk 4) := rfl

/-- R102 `LD r,d8`. -/
theorem runLdRegImm_next (r : Reg) (n : Byte) (s : State) :
    runLdRegImm r n s = .next (((s.advance 2).setReg r n).addClk 8) := rfl

/-- R103 `LD r,(HL)`. -/
theorem runLdRegAtHl_next (r : Reg) (s : State) :
    runLdRegAtHl r s = .next (((s.advance 1).setReg r s.atHl).addClk 8) := rfl

/-- R104 `LD (HL),r`. -/
theorem runLdAtHlReg_next (r : Reg) (s : State) :
    runLdAtHlReg r s = .next (((s.advance 1).writeByte s.hl (s.reg r)).addClk 8) := rfl

/-- R105 `LD (HL),d8`. -/
theorem runLdAtHlImm_next (n : Byte) (s : State) :
    runLdAtHlImm n s = .next (((s.advance 2).writeByte s.hl n).addClk 12) := rfl

/-- R106 `LD A,(BC)`. -/
theorem runLdAccAtBc_next (s : State) :
    runLdAccAtBc s = .next (((s.advance 1).setReg .a (s.readByte s.addrBc)).addClk 8) := rfl

/-- R107 `LD A,(DE)`. -/
theorem runLdAccAtDe_next (s : State) :
    runLdAccAtDe s = .next (((s.advance 1).setReg .a (s.readByte s.addrDe)).addClk 8) := rfl

/-- R108 `LD (BC),A`. -/
theorem runLdAtBcAcc_next (s : State) :
    runLdAtBcAcc s = .next (((s.advance 1).writeByte s.addrBc (s.reg .a)).addClk 8) := rfl

/-- R109 `LD (DE),A`. -/
theorem runLdAtDeAcc_next (s : State) :
    runLdAtDeAcc s = .next (((s.advance 1).writeByte s.addrDe (s.reg .a)).addClk 8) := rfl

/-- R110 `LD A,(a16)`. -/
theorem runLdAccAtAbs_next (w : Word) (s : State) :
    runLdAccAtAbs w s = .next (((s.advance 3).setReg .a (s.readByte w)).addClk 16) := rfl

/-- R111 `LD (a16),A`. -/
theorem runLdAtAbsAcc_next (w : Word) (s : State) :
    runLdAtAbsAcc w s = .next (((s.advance 3).writeByte w (s.reg .a)).addClk 16) := rfl

/-- R112 `LDH A,(a8)`. -/
theorem runLdAccAtHigh_next (n : Byte) (s : State) :
    runLdAccAtHigh n s = .next (((s.advance 2).setReg .a (s.readByte (highPage n))).addClk 12) := rfl

/-- R113 `LDH (a8),A`. -/
theorem runLdAtHighAcc_next (n : Byte) (s : State) :
    runLdAtHighAcc n s = .next (((s.advance 2).writeByte (highPage n) (s.reg .a)).addClk 12) := rfl

/-- R114 `LD A,(C)`. -/
theorem runLdAccAtC_next (s : State) :
    runLdAccAtC s = .next (((s.advance 1).setReg .a (s.readByte s.addrC)).addClk 8) := rfl

/-- R115 `LD (C),A`. -/
theorem runLdAtCAcc_next (s : State) :
    runLdAtCAcc s = .next (((s.advance 1).writeByte s.addrC (s.reg .a)).addClk 8) := rfl

/-- R116 `LD (HL+),A`. -/
theorem runLdAtHlIncAcc_next (s : State) :
    runLdAtHlIncAcc s = .next ((((s.advance 1).writeByte s.hl (s.reg .a)).setPair .hl (s.hl + 1)).addClk 8) := rfl

/-- R117 `LD A,(HL+)`. -/
theorem runLdAccAtHlInc_next (s : State) :
    runLdAccAtHlInc s = .next ((((s.advance 1).setReg .a s.atHl).setPair .hl (s.hl + 1)).addClk 8) := rfl

/-- R118 `LD (HL-),A`. -/
theorem runLdAtHlDecAcc_next (s : State) :
    runLdAtHlDecAcc s = .next ((((s.advance 1).writeByte s.hl (s.reg .a)).setPair .hl (s.hl - 1)).addClk 8) := rfl

/-- R119 `LD A,(HL-)`. -/
theorem runLdAccAtHlDec_next (s : State) :
    runLdAccAtHlDec s = .next ((((s.advance 1).setReg .a s.atHl).setPair .hl (s.hl - 1)).addClk 8) := rfl

/-- R132 `LD rr,d16`. -/
theorem runLdPairImm_next (p : Pair) (w : Word) (s : State) :
    runLdPairImm p w s = .next (((s.advance 3).setPair p w).addClk 12) := rfl

/-- R133 `LD (a16),SP`. -/
theorem runLdAtAbsSp_next (w : Word) (s : State) :
    runLdAtAbsSp w s = .next (((s.advance 3).writeWord w s.sp).addClk 20) := rfl

/-- R134 `LD SP,HL`. -/
theorem runLdSpFromHl_next (s : State) :
    runLdSpFromHl s = .next (((s.advance 1).setSp s.hl).addClk 8) := rfl

/-- R135 `LD HL,SP+r8`. -/
theorem runLdHlSpOffset_next (e : Byte) (s : State) :
    runLdHlSpOffset e s = .next ((((s.advance 2).setPair .hl (addSp s.sp e).1).setFlags (addSp s.sp e).2).addClk 12) := rfl

/-- R136 `PUSH rr`. -/
theorem runPushPair_next (p : StackPair) (s : State) :
    runPushPair p s = .next (((s.advance 1).push16 (s.pair (pairOf p))).addClk 16) := rfl

/-- R137 `PUSH AF`. -/
theorem runPushAf_next (s : State) :
    runPushAf s = .next (((s.advance 1).push16 s.af).addClk 16) := rfl

/-- R138 `POP rr`. -/
theorem runPopPair_next (p : StackPair) (s : State) :
    runPopPair p s = .next (((s.advance 1).popped.setPair (pairOf p) s.popValue).addClk 12) := rfl

/-- R139 `POP AF`. -/
theorem runPopAf_next (s : State) :
    runPopAf s = .next (((s.advance 1).popped.setAf s.popValue).addClk 12) := rfl

/-- R150 to R171, the eight accumulator operations with a register. -/
theorem runAluReg_next (op : AluOp) (r : Reg) (s : State) :
    runAluReg op r s = .next (((s.advance 1).applyAcc (aluOp op (s.reg .a) (s.reg r) s.flags.c)).addClk 4) := rfl

/-- R151 to R172, the eight accumulator operations with `(HL)`. -/
theorem runAluAtHl_next (op : AluOp) (s : State) :
    runAluAtHl op s = .next (((s.advance 1).applyAcc (aluOp op (s.reg .a) s.atHl s.flags.c)).addClk 8) := rfl

/-- R152 to R173, the eight accumulator operations with `d8`. -/
theorem runAluImm_next (op : AluOp) (n : Byte) (s : State) :
    runAluImm op n s = .next (((s.advance 2).applyAcc (aluOp op (s.reg .a) n s.flags.c)).addClk 8) := rfl

/-- R174 `INC r`. -/
theorem runIncReg_next (r : Reg) (s : State) :
    runIncReg r s = .next ((((s.advance 1).setReg r (add8 (s.reg r) 1 false).res).setFlags (incFlags (s.reg r) s.flags)).addClk 4) := rfl

/-- R175 `INC (HL)`. -/
theorem runIncAtHl_next (s : State) :
    runIncAtHl s = .next ((((s.advance 1).writeByte s.hl (add8 s.atHl 1 false).res).setFlags (incFlags s.atHl s.flags)).addClk 12) := rfl

/-- R176 `DEC r`. -/
theorem runDecReg_next (r : Reg) (s : State) :
    runDecReg r s = .next ((((s.advance 1).setReg r (sub8 (s.reg r) 1 false).res).setFlags (decFlags (s.reg r) s.flags)).addClk 4) := rfl

/-- R177 `DEC (HL)`. -/
theorem runDecAtHl_next (s : State) :
    runDecAtHl s = .next ((((s.advance 1).writeByte s.hl (sub8 s.atHl 1 false).res).setFlags (decFlags s.atHl s.flags)).addClk 12) := rfl

/-- R178 `DAA`. -/
theorem runDaa_next (s : State) :
    runDaa s = .next ((((s.advance 1).setReg .a (daaOp (s.reg .a) s.flags).1).setFlags (daaOp (s.reg .a) s.flags).2).addClk 4) := rfl

/-- R179 `CPL`. -/
theorem runCpl_next (s : State) :
    runCpl s = .next ((((s.advance 1).setReg .a (~~~(s.reg .a))).setFlags ⟨s.flags.z, true, true, s.flags.c⟩).addClk 4) := rfl

/-- R180 `SCF`. -/
theorem runScf_next (s : State) :
    runScf s = .next (((s.advance 1).setFlags ⟨s.flags.z, false, false, true⟩).addClk 4) := rfl

/-- R181 `CCF`. -/
theorem runCcf_next (s : State) :
    runCcf s = .next (((s.advance 1).setFlags ⟨s.flags.z, false, false, !s.flags.c⟩).addClk 4) := rfl

/-- R185 `ADD HL,rr`. -/
theorem runAddHlPair_next (p : Pair) (s : State) :
    runAddHlPair p s = .next ((((s.advance 1).setPair .hl (addHl s.hl (s.pair p) s.flags).1).setFlags (addHl s.hl (s.pair p) s.flags).2).addClk 8) := rfl

/-- R186 `INC rr`. -/
theorem runIncPair_next (p : Pair) (s : State) :
    runIncPair p s = .next (((s.advance 1).setPair p (s.pair p + 1)).addClk 8) := rfl

/-- R187 `DEC rr`. -/
theorem runDecPair_next (p : Pair) (s : State) :
    runDecPair p s = .next (((s.advance 1).setPair p (s.pair p - 1)).addClk 8) := rfl

/-- R188 `ADD SP,r8`. -/
theorem runAddSpOffset_next (e : Byte) (s : State) :
    runAddSpOffset e s = .next ((((s.advance 2).setSp (addSp s.sp e).1).setFlags (addSp s.sp e).2).addClk 16) := rfl

/-- R190 `RLCA`. -/
theorem runRlca_next (s : State) :
    runRlca s = .next (((((s.advance 1).setReg .a (shift .rlc (s.reg .a) s.flags.c).1)).setFlags (rotAccFlags (shift .rlc (s.reg .a) s.flags.c))).addClk 4) := rfl

/-- R191 `RRCA`. -/
theorem runRrca_next (s : State) :
    runRrca s = .next (((((s.advance 1).setReg .a (shift .rrc (s.reg .a) s.flags.c).1)).setFlags (rotAccFlags (shift .rrc (s.reg .a) s.flags.c))).addClk 4) := rfl

/-- R192 `RLA`. -/
theorem runRla_next (s : State) :
    runRla s = .next (((((s.advance 1).setReg .a (shift .rl (s.reg .a) s.flags.c).1)).setFlags (rotAccFlags (shift .rl (s.reg .a) s.flags.c))).addClk 4) := rfl

/-- R193 `RRA`. -/
theorem runRra_next (s : State) :
    runRra s = .next (((((s.advance 1).setReg .a (shift .rr (s.reg .a) s.flags.c).1)).setFlags (rotAccFlags (shift .rr (s.reg .a) s.flags.c))).addClk 4) := rfl

/-- R194 to R208, the eight rotates and shifts of a register. -/
theorem runRotReg_next (op : RotOp) (r : Reg) (s : State) :
    runRotReg op r s = .next ((((s.advance 2).setReg r (shift op (s.reg r) s.flags.c).1).setFlags (rotFlags (shift op (s.reg r) s.flags.c))).addClk 8) := rfl

/-- R195 to R209, the eight rotates and shifts of `(HL)`. -/
theorem runRotAtHl_next (op : RotOp) (s : State) :
    runRotAtHl op s = .next ((((s.advance 2).writeByte s.hl (shift op s.atHl s.flags.c).1).setFlags (rotFlags (shift op s.atHl s.flags.c))).addClk 16) := rfl

/-- R210 `BIT b,r`. -/
theorem runBitReg_next (i : Idx8) (r : Reg) (s : State) :
    runBitReg i r s = .next (((s.advance 2).setFlags (bitFlags (s.reg r) i s.flags)).addClk 8) := rfl

/-- R211 `BIT b,(HL)`. -/
theorem runBitAtHl_next (i : Idx8) (s : State) :
    runBitAtHl i s = .next (((s.advance 2).setFlags (bitFlags s.atHl i s.flags)).addClk 12) := rfl

/-- R212 `RES b,r`. -/
theorem runResReg_next (i : Idx8) (r : Reg) (s : State) :
    runResReg i r s = .next (((s.advance 2).setReg r (clearBit (s.reg r) i)).addClk 8) := rfl

/-- R213 `RES b,(HL)`. -/
theorem runResAtHl_next (i : Idx8) (s : State) :
    runResAtHl i s = .next (((s.advance 2).writeByte s.hl (clearBit s.atHl i)).addClk 16) := rfl

/-- R214 `SET b,r`. -/
theorem runSetReg_next (i : Idx8) (r : Reg) (s : State) :
    runSetReg i r s = .next (((s.advance 2).setReg r (setBit (s.reg r) i)).addClk 8) := rfl

/-- R215 `SET b,(HL)`. -/
theorem runSetAtHl_next (i : Idx8) (s : State) :
    runSetAtHl i s = .next (((s.advance 2).writeByte s.hl (setBit s.atHl i)).addClk 16) := rfl

/-- R221 `JP a16`. -/
theorem runJpAbs_next (w : Word) (s : State) :
    runJpAbs w s = .next (((s.advance 3).setPc w).addClk 16) := rfl

/-- R222 `JP cc,a16`. -/
theorem runJpCond_next (cc : Cond) (w : Word) (s : State) :
    runJpCond cc w s = .next (if s.flags.cond cc then ((s.advance 3).setPc w).addClk 16 else (s.advance 3).addClk 12) := by
  cases h : s.flags.cond cc <;> simp [runJpCond, h, State.retire]

/-- R223 `JP (HL)`. -/
theorem runJpHl_next (s : State) :
    runJpHl s = .next (((s.advance 1).setPc s.hl).addClk 4) := rfl

/-- R224 `JR r8`. -/
theorem runJrRel_next (e : Byte) (s : State) :
    runJrRel e s = .next (((s.advance 2).setPc (s.pc + 2 + sext16 e)).addClk 12) := rfl

/-- R225 `JR cc,r8`. -/
theorem runJrCond_next (cc : Cond) (e : Byte) (s : State) :
    runJrCond cc e s = .next (if s.flags.cond cc then ((s.advance 2).setPc (s.pc + 2 + sext16 e)).addClk 12 else (s.advance 2).addClk 8) := by
  cases h : s.flags.cond cc <;> simp [runJrCond, h, State.retire, State.relTarget]

/-- R226 `CALL a16`. -/
theorem runCallAbs_next (w : Word) (s : State) :
    runCallAbs w s = .next ((((s.advance 3).push16 (s.pc + 3)).setPc w).addClk 24) := rfl

/-- R227 `CALL cc,a16`. -/
theorem runCallCond_next (cc : Cond) (w : Word) (s : State) :
    runCallCond cc w s = .next (if s.flags.cond cc then (((s.advance 3).push16 (s.pc + 3)).setPc w).addClk 24 else (s.advance 3).addClk 12) := by
  cases h : s.flags.cond cc <;> simp [runCallCond, h, State.retire]

/-- R228 `RET`. -/
theorem runRet_next (s : State) :
    runRet s = .next (((s.advance 1).popped.setPc s.popValue).addClk 16) := rfl

/-- R229 `RET cc`. -/
theorem runRetCond_next (cc : Cond) (s : State) :
    runRetCond cc s = .next (if s.flags.cond cc then ((s.advance 1).popped.setPc s.popValue).addClk 20 else (s.advance 1).addClk 8) := by
  cases h : s.flags.cond cc <;> simp [runRetCond, h, State.retire]

/-- R230 `RETI`. -/
theorem runReti_next (s : State) :
    runReti s = .next ((s.advance 1).returnInterrupt.addClk 16) := rfl

/-- R231 `RST n`. -/
theorem runRst_next (t : Idx8) (s : State) :
    runRst t s = .next ((((s.advance 1).push16 (s.pc + 1)).setPc (restartAddress t)).addClk 16) := rfl

/-- R235 `NOP`. -/
theorem runNop_next (s : State) :
    runNop s = .next ((s.advance 1).addClk 4) := rfl

/-- R237 `STOP`. -/
theorem runStop_next (pad : Byte) (s : State) :
    runStop pad s = .next (((s.advance 2).setRun .stopped).addClk 4) := rfl

/-- R238 `DI`. -/
theorem runDi_next (s : State) :
    runDi s = .next ((((s.advance 1).setIme false).setImeSched false).addClk 4) := rfl

/-- R236 `HALT`: refused with `IME` = 0 and a request in the sample, else halted. -/
theorem runHalt_cases (s : State) :
    (s.ime = false ∧ s.irqSample.isSome = true ∧ runHalt s = .refused .haltWithPendingRequest) ∨
    ((s.ime = true ∨ s.irqSample = none) ∧ runHalt s = .next (((s.advance 1).setRun .halted).addClk 4)) := by
  unfold runHalt
  cases hi : s.ime <;> cases hq : s.irqSample <;> simp [State.retire]

/-- R239 `EI`. -/
theorem runEi_next (s : State) :
    runEi s = .next ((if s.params.eiDelay = 0 then (s.advance 1).setIme true
      else if s.ime = false then (s.advance 1).setImeSched true else s.advance 1).addClk 4) := by
  unfold runEi
  by_cases h : s.params.eiDelay = 0
  · simp [h, State.retire]
  · by_cases hi : s.ime = false <;> simp [h, hi, State.retire]

/-- R76 the undefined bytes. -/
theorem runIllegal_next (b : Byte) (s : State) :
    runIllegal b s = .next (s.raise (.unimplementedOpcode b s.pc)) := rfl

/-- Only `HALT` can answer anything but a next state, and it answers no fault. -/
theorem run_total (e : Effect) (s : State) :
    (∃ t, Effect.run e s = .next t) ∨ (e = .halt ∧ Effect.run e s = .refused .haltWithPendingRequest) := by
  cases e with
  | ldRegReg r q => exact .inl ⟨_, runLdRegReg_next r q s⟩
  | ldRegImm r n => exact .inl ⟨_, runLdRegImm_next r n s⟩
  | ldRegAtHl r => exact .inl ⟨_, runLdRegAtHl_next r s⟩
  | ldAtHlReg r => exact .inl ⟨_, runLdAtHlReg_next r s⟩
  | ldAtHlImm n => exact .inl ⟨_, runLdAtHlImm_next n s⟩
  | ldAccAtBc => exact .inl ⟨_, runLdAccAtBc_next s⟩
  | ldAccAtDe => exact .inl ⟨_, runLdAccAtDe_next s⟩
  | ldAtBcAcc => exact .inl ⟨_, runLdAtBcAcc_next s⟩
  | ldAtDeAcc => exact .inl ⟨_, runLdAtDeAcc_next s⟩
  | ldAccAtAbs w => exact .inl ⟨_, runLdAccAtAbs_next w s⟩
  | ldAtAbsAcc w => exact .inl ⟨_, runLdAtAbsAcc_next w s⟩
  | ldAccAtHigh n => exact .inl ⟨_, runLdAccAtHigh_next n s⟩
  | ldAtHighAcc n => exact .inl ⟨_, runLdAtHighAcc_next n s⟩
  | ldAccAtC => exact .inl ⟨_, runLdAccAtC_next s⟩
  | ldAtCAcc => exact .inl ⟨_, runLdAtCAcc_next s⟩
  | ldAtHlIncAcc => exact .inl ⟨_, runLdAtHlIncAcc_next s⟩
  | ldAccAtHlInc => exact .inl ⟨_, runLdAccAtHlInc_next s⟩
  | ldAtHlDecAcc => exact .inl ⟨_, runLdAtHlDecAcc_next s⟩
  | ldAccAtHlDec => exact .inl ⟨_, runLdAccAtHlDec_next s⟩
  | ldPairImm p w => exact .inl ⟨_, runLdPairImm_next p w s⟩
  | ldAtAbsSp w => exact .inl ⟨_, runLdAtAbsSp_next w s⟩
  | ldSpFromHl => exact .inl ⟨_, runLdSpFromHl_next s⟩
  | ldHlSpOffset e => exact .inl ⟨_, runLdHlSpOffset_next e s⟩
  | pushPair p => exact .inl ⟨_, runPushPair_next p s⟩
  | pushAf => exact .inl ⟨_, runPushAf_next s⟩
  | popPair p => exact .inl ⟨_, runPopPair_next p s⟩
  | popAf => exact .inl ⟨_, runPopAf_next s⟩
  | aluReg op r => exact .inl ⟨_, runAluReg_next op r s⟩
  | aluAtHl op => exact .inl ⟨_, runAluAtHl_next op s⟩
  | aluImm op n => exact .inl ⟨_, runAluImm_next op n s⟩
  | incReg r => exact .inl ⟨_, runIncReg_next r s⟩
  | incAtHl => exact .inl ⟨_, runIncAtHl_next s⟩
  | decReg r => exact .inl ⟨_, runDecReg_next r s⟩
  | decAtHl => exact .inl ⟨_, runDecAtHl_next s⟩
  | daa => exact .inl ⟨_, runDaa_next s⟩
  | cpl => exact .inl ⟨_, runCpl_next s⟩
  | scf => exact .inl ⟨_, runScf_next s⟩
  | ccf => exact .inl ⟨_, runCcf_next s⟩
  | addHlPair p => exact .inl ⟨_, runAddHlPair_next p s⟩
  | incPair p => exact .inl ⟨_, runIncPair_next p s⟩
  | decPair p => exact .inl ⟨_, runDecPair_next p s⟩
  | addSpOffset e => exact .inl ⟨_, runAddSpOffset_next e s⟩
  | rlca => exact .inl ⟨_, runRlca_next s⟩
  | rrca => exact .inl ⟨_, runRrca_next s⟩
  | rla => exact .inl ⟨_, runRla_next s⟩
  | rra => exact .inl ⟨_, runRra_next s⟩
  | rotReg op r => exact .inl ⟨_, runRotReg_next op r s⟩
  | rotAtHl op => exact .inl ⟨_, runRotAtHl_next op s⟩
  | bitReg i r => exact .inl ⟨_, runBitReg_next i r s⟩
  | bitAtHl i => exact .inl ⟨_, runBitAtHl_next i s⟩
  | resReg i r => exact .inl ⟨_, runResReg_next i r s⟩
  | resAtHl i => exact .inl ⟨_, runResAtHl_next i s⟩
  | setReg i r => exact .inl ⟨_, runSetReg_next i r s⟩
  | setAtHl i => exact .inl ⟨_, runSetAtHl_next i s⟩
  | jpAbs w => exact .inl ⟨_, runJpAbs_next w s⟩
  | jpCond cc w => exact .inl ⟨_, runJpCond_next cc w s⟩
  | jpHl => exact .inl ⟨_, runJpHl_next s⟩
  | jrRel e => exact .inl ⟨_, runJrRel_next e s⟩
  | jrCond cc e => exact .inl ⟨_, runJrCond_next cc e s⟩
  | callAbs w => exact .inl ⟨_, runCallAbs_next w s⟩
  | callCond cc w => exact .inl ⟨_, runCallCond_next cc w s⟩
  | ret => exact .inl ⟨_, runRet_next s⟩
  | retCond cc => exact .inl ⟨_, runRetCond_next cc s⟩
  | reti => exact .inl ⟨_, runReti_next s⟩
  | rst t => exact .inl ⟨_, runRst_next t s⟩
  | nop => exact .inl ⟨_, runNop_next s⟩
  | halt =>
    rcases runHalt_cases s with h | h
    · exact .inr ⟨rfl, h.2.2⟩
    · exact .inl ⟨_, h.2⟩
  | stop pad => exact .inl ⟨_, runStop_next pad s⟩
  | di => exact .inl ⟨_, runDi_next s⟩
  | ei => exact .inl ⟨_, runEi_next s⟩
  | illegal b => exact .inl ⟨_, runIllegal_next b s⟩

end Sys2Proof.Machine
end

