-- ==== Sys2Proof/Laws/Step.lean ====
section
/-! SUPPORT. Everything a step can do, said once: how it answers, and in which case. -/

namespace Sys2Proof.Machine

/-- The sample does not depend on the acknowledge output. -/
@[simp] theorem State.setAck_irqSample (s : State) (x : Option Word) : (s.setAck x).irqSample = s.irqSample := rfl

/-- A breakpoint is one whatever the acknowledge output. -/
@[simp] theorem State.setAck_isBreakpoint (s : State) (x : Option Word) (a : Word) :
    (s.setAck x).isBreakpoint a = s.isBreakpoint a := rfl

/-- A running machine executes the instruction at `PC` (R246). -/
theorem State.execute_running {s : State} (h : s.run = .running) :
    s.execute = exec (decodeAt s.mem s.pc) s := by
  simp [State.execute, h]

/-- A halted machine idles (R249). -/
theorem State.execute_halted {s : State} (h : s.run = .halted) :
    s.execute = .next (s.addClk s.params.haltTick) := by
  simp [State.execute, h]

/-- Only an executed `HALT` can refuse, and nothing faults the outcome. -/
theorem State.execute_total (s : State) :
    (∃ t, s.execute = .next t) ∨
      (s.run = .running ∧ decodeAt s.mem s.pc = .halt ∧ s.execute = .refused .haltWithPendingRequest) := by
  by_cases h : s.run = .running
  · rw [State.execute_running h, exec_eq_run]
    rcases run_total (Instr.effect (decodeAt s.mem s.pc)) s with ⟨t, ht⟩ | ⟨he, hr⟩
    · exact .inl ⟨t, ht⟩
    · exact .inr ⟨h, by rw [← instr_effect (decodeAt s.mem s.pc), he]; rfl, hr⟩
  · refine .inl ⟨s.addClk s.params.haltTick, ?_⟩
    cases hr : s.run <;> simp_all [State.execute]

/-- The machine has a step exactly when the host has not left and the state is running or halted. -/
theorem State.live_iff (s : State) :
    s.live = true ↔ s.exited = false ∧ (s.run = .running ∨ s.run = .halted) := by
  cases hr : s.run <;> simp [State.live, hr]

/-- The breakpoint test (R251). -/
theorem State.breaks_iff (s : State) :
    s.breaks = true ↔ s.dbgMode = .freeRunning ∧ s.run = .running ∧ s.isBreakpoint s.pc = true := by
  simp [State.breaks, and_assoc]

/-- An executing step that goes on is the instruction part followed by `finish`. -/
theorem State.executingStep_next {s t : State} :
    s.executingStep = .next t ↔ ∃ v, s.execute = .next v ∧ s.finish v = t := by
  unfold State.executingStep
  cases s.execute <;> simp

/-- The four ways of R252 a step goes. -/
theorem State.stepWith_cases (s : State) (single : Bool) :
    (s.live = false ∧ s.stepWith single = .next (s.report .ended 0)) ∨
    (s.live = true ∧ s.dbgMode = .paused ∧ single = false ∧
      s.stepWith single = .next (s.report .waitingForHost 0)) ∨
    (s.live = true ∧ s.breaks = true ∧
      s.stepWith single = .next ((s.setDbgMode .paused).report (.breakpointHit s.pc) 0)) ∨
    (s.live = true ∧ (s.dbgMode = .paused → single = true) ∧ s.breaks = false ∧
      s.stepWith single = s.executingStep) := by
  unfold State.stepWith
  cases hl : s.live
  · simp
  · cases hd : s.dbgMode <;> cases single <;> cases hb : s.breaks <;>
      simp_all [State.breaks_iff]

/-- How an executing step ends: in the fault the instruction raised, or with commit and poll (R250, R252). -/
theorem State.finish_cases (s t : State) :
    (∃ f, t.run = .faulted f ∧ s.finish t = t.dropSample.report (.fault f) 0) ∨
    (t.unfaulted = true ∧
      s.finish t = (((t.commitEi s.imeSched).pollUnlessStopped s.irqSample).dropSample.report .ok
        (((t.commitEi s.imeSched).pollUnlessStopped s.irqSample).clk - s.clk))) := by
  cases hr : t.run <;> simp [State.finish, State.unfaulted, hr]

/-- What the poll leaves of a sample `q` (R272). -/
theorem State.poll_cases (s : State) (q : Option Word) :
    (q = none ∧ s.poll q = s) ∨
    (∃ v, q = some v ∧ s.ime = false ∧ s.poll q = s.wake) ∨
    (∃ v, q = some v ∧ s.ime = true ∧ s.poll q = s.wake.enterInterrupt v) := by
  cases q with
  | none => simp [State.poll]
  | some v => cases hi : s.ime <;> simp [State.poll, hi]

/-- Waking ends a halted state and changes nothing else (R272). -/
theorem State.wake_cases (s : State) :
    (s.run = .halted ∧ s.wake = s.setRun .running) ∨ (s.run ≠ .halted ∧ s.wake = s) := by
  cases hr : s.run <;> simp [State.wake, hr]

/-- The commit gives the enable and drops the schedule, or changes nothing (R248). -/
theorem State.commitEi_cases (s : State) (sched0 : Bool) :
    (sched0 = true ∧ s.imeSched = true ∧ s.commitEi sched0 = (s.setIme true).setImeSched false) ∨
    ((sched0 = false ∨ s.imeSched = false) ∧ s.commitEi sched0 = s) := by
  cases sched0 <;> cases hs : s.imeSched <;> simp [State.commitEi, hs]

/-- The host action changes `bp`, `dbgMode` or `exited`, or nothing (R291, R293, R296). -/
theorem State.hostAct_cases (s : State) (c : HostCmd) :
    s.hostAct c = s ∨ (∃ m, s.hostAct c = s.setDbgMode m) ∨ s.hostAct c = s.setExited true ∨
    (∃ x, s.hostAct c = s.addBreakpoint x) ∨ (∃ i, s.hostAct c = s.removeBreakpoint i) := by
  unfold State.hostAct
  split
  · exact .inl rfl
  · split
    · cases c with
      | brk => exact .inr (.inl ⟨_, rfl⟩)
      | exit => exact .inr (.inr (.inl rfl))
      | addBreakpoint x => exact .inr (.inr (.inr (.inl ⟨x, rfl⟩)))
      | removeBreakpoint i => exact .inr (.inr (.inr (.inr ⟨i, rfl⟩)))
      | step => exact .inl rfl
      | cont => exact .inl rfl
      | noop => exact .inl rfl
      | pause => exact .inl rfl
    · cases c with
      | pause => exact .inr (.inl ⟨_, rfl⟩)
      | step => exact .inl rfl
      | brk => exact .inl rfl
      | cont => exact .inl rfl
      | noop => exact .inl rfl
      | exit => exact .inl rfl
      | addBreakpoint _ => exact .inl rfl
      | removeBreakpoint _ => exact .inl rfl

end Sys2Proof.Machine
end

