-- ==== Sys2Proof/Laws/Bytes.lean ====
section
/-! SUPPORT. The halves of a word, a register read after a register or pair write, and the bytes after an
interrupt entry. -/

namespace Sys2Proof

/-- A word is its halves joined (R8). -/
@[simp] theorem joinBytes_hi_lo (v : Word) : joinBytes (hiByte v) (loByte v) = v := by
  apply BitVec.eq_of_getLsbD_eq
  intro i hi
  simp only [joinBytes, hiByte, loByte, BitVec.getLsbD_append, BitVec.getLsbD_setWidth, BitVec.getLsbD_ushiftRight]
  by_cases h : i < 8
  · simp [h]
  · have h2 : i - 8 < 8 := by omega
    have h3 : 8 + (i - 8) = i := by omega
    simp [h, h2, h3]

theorem joinBytes_toNat (h l : Byte) : (joinBytes h l).toNat = h.toNat * 256 + l.toNat := by
  unfold joinBytes
  rw [BitVec.toNat_append, ← Nat.shiftLeft_add_eq_or_of_lt l.isLt, Nat.shiftLeft_eq]

@[simp] theorem hiByte_join (h l : Byte) : hiByte (joinBytes h l) = h := by
  apply BitVec.eq_of_toNat_eq
  have hl := l.isLt
  have hh := h.isLt
  simp only [hiByte, BitVec.toNat_setWidth, BitVec.toNat_ushiftRight, joinBytes_toNat, Nat.shiftRight_eq_div_pow]
  omega

@[simp] theorem loByte_join (h l : Byte) : loByte (joinBytes h l) = l := by
  apply BitVec.eq_of_toNat_eq
  have hl := l.isLt
  simp only [loByte, BitVec.toNat_setWidth, joinBytes_toNat]
  omega

namespace Machine

/-- A register read after a register write. -/
@[simp] theorem State.setReg_reg (s : State) (r q : Reg) (v : Byte) :
    (s.setReg r v).reg q = if q = r then v else s.reg q := by
  cases r <;> cases q <;> rfl

@[simp] theorem State.setPair_bc_reg (s : State) (v : Word) (q : Reg) :
    (s.setPair .bc v).reg q = if q = .b then hiByte v else if q = .c then loByte v else s.reg q := by
  cases q <;> rfl

@[simp] theorem State.setPair_de_reg (s : State) (v : Word) (q : Reg) :
    (s.setPair .de v).reg q = if q = .d then hiByte v else if q = .e then loByte v else s.reg q := by
  cases q <;> rfl

@[simp] theorem State.setPair_hl_reg (s : State) (v : Word) (q : Reg) :
    (s.setPair .hl v).reg q = if q = .h then hiByte v else if q = .l then loByte v else s.reg q := by
  cases q <;> rfl

@[simp] theorem State.setPair_sp_reg (s : State) (v : Word) (q : Reg) : (s.setPair .sp v).reg q = s.reg q := rfl

@[simp] theorem State.setPair_bc_sp (s : State) (v : Word) : (s.setPair .bc v).sp = s.sp := rfl

@[simp] theorem State.setPair_de_sp (s : State) (v : Word) : (s.setPair .de v).sp = s.sp := rfl

@[simp] theorem State.setPair_hl_sp (s : State) (v : Word) : (s.setPair .hl v).sp = s.sp := rfl

@[simp] theorem State.setPair_sp_sp (s : State) (v : Word) : (s.setPair .sp v).sp = v := rfl

@[simp] theorem State.setAf_reg (s : State) (v : Word) (q : Reg) :
    (s.setAf v).reg q = if q = .a then hiByte v else s.reg q := by
  cases q <;> rfl

/-- The bytes after an interrupt entry (R273). -/
theorem State.readByte_enterInterrupt (s : State) (v a : Word) :
    (s.enterInterrupt v).readByte a =
      if a = s.sp - 2 then loByte s.pc else if a = s.sp - 2 + 1 then hiByte s.pc else s.readByte a :=
  State.readByte_push16 s s.pc a

end Machine

end Sys2Proof
end

