-- ==== Sys2Proof/Laws/Descriptors.lean ====
section
/-! SUPPORT. What the descriptors of one effect's instructions have in common: length, cycles and the range
of their rules (R71, R80). -/

namespace Sys2Proof.Machine

/-- Bytes of the instructions of an effect; an undefined byte has no descriptor and counts 1 (R72, R82). -/
def Effect.bytes : Effect → Nat
  | .ldRegReg _ _ => 1
  | .ldRegImm _ _ => 2
  | .ldRegAtHl _ => 1
  | .ldAtHlReg _ => 1
  | .ldAtHlImm _ => 2
  | .ldAccAtBc => 1
  | .ldAccAtDe => 1
  | .ldAtBcAcc => 1
  | .ldAtDeAcc => 1
  | .ldAccAtAbs _ => 3
  | .ldAtAbsAcc _ => 3
  | .ldAccAtHigh _ => 2
  | .ldAtHighAcc _ => 2
  | .ldAccAtC => 1
  | .ldAtCAcc => 1
  | .ldAtHlIncAcc => 1
  | .ldAccAtHlInc => 1
  | .ldAtHlDecAcc => 1
  | .ldAccAtHlDec => 1
  | .ldPairImm _ _ => 3
  | .ldAtAbsSp _ => 3
  | .ldSpFromHl => 1
  | .ldHlSpOffset _ => 2
  | .pushPair _ => 1
  | .pushAf => 1
  | .popPair _ => 1
  | .popAf => 1
  | .aluReg _ _ => 1
  | .aluAtHl _ => 1
  | .aluImm _ _ => 2
  | .incReg _ => 1
  | .incAtHl => 1
  | .decReg _ => 1
  | .decAtHl => 1
  | .daa => 1
  | .cpl => 1
  | .scf => 1
  | .ccf => 1
  | .addHlPair _ => 1
  | .incPair _ => 1
  | .decPair _ => 1
  | .addSpOffset _ => 2
  | .rlca => 1
  | .rrca => 1
  | .rla => 1
  | .rra => 1
  | .rotReg _ _ => 2
  | .rotAtHl _ => 2
  | .bitReg _ _ => 2
  | .bitAtHl _ => 2
  | .resReg _ _ => 2
  | .resAtHl _ => 2
  | .setReg _ _ => 2
  | .setAtHl _ => 2
  | .jpAbs _ => 3
  | .jpCond _ _ => 3
  | .jpHl => 1
  | .jrRel _ => 2
  | .jrCond _ _ => 2
  | .callAbs _ => 3
  | .callCond _ _ => 3
  | .ret => 1
  | .retCond _ => 1
  | .reti => 1
  | .rst _ => 1
  | .nop => 1
  | .halt => 1
  | .stop _ => 2
  | .di => 1
  | .ei => 1
  | .illegal _ => 1

/-- Cycles of the instructions of an effect, taken where conditional (R80). -/
def Effect.cost : Effect → Nat
  | .ldRegReg _ _ => 4
  | .ldRegImm _ _ => 8
  | .ldRegAtHl _ => 8
  | .ldAtHlReg _ => 8
  | .ldAtHlImm _ => 12
  | .ldAccAtBc => 8
  | .ldAccAtDe => 8
  | .ldAtBcAcc => 8
  | .ldAtDeAcc => 8
  | .ldAccAtAbs _ => 16
  | .ldAtAbsAcc _ => 16
  | .ldAccAtHigh _ => 12
  | .ldAtHighAcc _ => 12
  | .ldAccAtC => 8
  | .ldAtCAcc => 8
  | .ldAtHlIncAcc => 8
  | .ldAccAtHlInc => 8
  | .ldAtHlDecAcc => 8
  | .ldAccAtHlDec => 8
  | .ldPairImm _ _ => 12
  | .ldAtAbsSp _ => 20
  | .ldSpFromHl => 8
  | .ldHlSpOffset _ => 12
  | .pushPair _ => 16
  | .pushAf => 16
  | .popPair _ => 12
  | .popAf => 12
  | .aluReg _ _ => 4
  | .aluAtHl _ => 8
  | .aluImm _ _ => 8
  | .incReg _ => 4
  | .incAtHl => 12
  | .decReg _ => 4
  | .decAtHl => 12
  | .daa => 4
  | .cpl => 4
  | .scf => 4
  | .ccf => 4
  | .addHlPair _ => 8
  | .incPair _ => 8
  | .decPair _ => 8
  | .addSpOffset _ => 16
  | .rlca => 4
  | .rrca => 4
  | .rla => 4
  | .rra => 4
  | .rotReg _ _ => 8
  | .rotAtHl _ => 16
  | .bitReg _ _ => 8
  | .bitAtHl _ => 12
  | .resReg _ _ => 8
  | .resAtHl _ => 16
  | .setReg _ _ => 8
  | .setAtHl _ => 16
  | .jpAbs _ => 16
  | .jpCond _ _ => 16
  | .jpHl => 4
  | .jrRel _ => 12
  | .jrCond _ _ => 12
  | .callAbs _ => 24
  | .callCond _ _ => 24
  | .ret => 16
  | .retCond _ => 20
  | .reti => 16
  | .rst _ => 16
  | .nop => 4
  | .halt => 4
  | .stop _ => 4
  | .di => 4
  | .ei => 4
  | .illegal _ => 0

/-- Cycles when the condition is false (R80). -/
def Effect.costNotTaken : Effect → Option Nat
  | .ldRegReg _ _ => none
  | .ldRegImm _ _ => none
  | .ldRegAtHl _ => none
  | .ldAtHlReg _ => none
  | .ldAtHlImm _ => none
  | .ldAccAtBc => none
  | .ldAccAtDe => none
  | .ldAtBcAcc => none
  | .ldAtDeAcc => none
  | .ldAccAtAbs _ => none
  | .ldAtAbsAcc _ => none
  | .ldAccAtHigh _ => none
  | .ldAtHighAcc _ => none
  | .ldAccAtC => none
  | .ldAtCAcc => none
  | .ldAtHlIncAcc => none
  | .ldAccAtHlInc => none
  | .ldAtHlDecAcc => none
  | .ldAccAtHlDec => none
  | .ldPairImm _ _ => none
  | .ldAtAbsSp _ => none
  | .ldSpFromHl => none
  | .ldHlSpOffset _ => none
  | .pushPair _ => none
  | .pushAf => none
  | .popPair _ => none
  | .popAf => none
  | .aluReg _ _ => none
  | .aluAtHl _ => none
  | .aluImm _ _ => none
  | .incReg _ => none
  | .incAtHl => none
  | .decReg _ => none
  | .decAtHl => none
  | .daa => none
  | .cpl => none
  | .scf => none
  | .ccf => none
  | .addHlPair _ => none
  | .incPair _ => none
  | .decPair _ => none
  | .addSpOffset _ => none
  | .rlca => none
  | .rrca => none
  | .rla => none
  | .rra => none
  | .rotReg _ _ => none
  | .rotAtHl _ => none
  | .bitReg _ _ => none
  | .bitAtHl _ => none
  | .resReg _ _ => none
  | .resAtHl _ => none
  | .setReg _ _ => none
  | .setAtHl _ => none
  | .jpAbs _ => none
  | .jpCond _ _ => some 12
  | .jpHl => none
  | .jrRel _ => none
  | .jrCond _ _ => some 8
  | .callAbs _ => none
  | .callCond _ _ => some 12
  | .ret => none
  | .retCond _ => some 8
  | .reti => none
  | .rst _ => none
  | .nop => none
  | .halt => none
  | .stop _ => none
  | .di => none
  | .ei => none
  | .illegal _ => none

/-- The first and the last rule of spec/ the instructions of an effect follow. -/
def Effect.ruleRange : Effect → Nat × Nat
  | .ldRegReg _ _ => (101, 101)
  | .ldRegImm _ _ => (102, 102)
  | .ldRegAtHl _ => (103, 103)
  | .ldAtHlReg _ => (104, 104)
  | .ldAtHlImm _ => (105, 105)
  | .ldAccAtBc => (106, 106)
  | .ldAccAtDe => (107, 107)
  | .ldAtBcAcc => (108, 108)
  | .ldAtDeAcc => (109, 109)
  | .ldAccAtAbs _ => (110, 110)
  | .ldAtAbsAcc _ => (111, 111)
  | .ldAccAtHigh _ => (112, 112)
  | .ldAtHighAcc _ => (113, 113)
  | .ldAccAtC => (114, 114)
  | .ldAtCAcc => (115, 115)
  | .ldAtHlIncAcc => (116, 116)
  | .ldAccAtHlInc => (117, 117)
  | .ldAtHlDecAcc => (118, 118)
  | .ldAccAtHlDec => (119, 119)
  | .ldPairImm _ _ => (132, 132)
  | .ldAtAbsSp _ => (133, 133)
  | .ldSpFromHl => (134, 134)
  | .ldHlSpOffset _ => (135, 135)
  | .pushPair _ => (136, 136)
  | .pushAf => (137, 137)
  | .popPair _ => (138, 138)
  | .popAf => (139, 139)
  | .aluReg _ _ => (150, 171)
  | .aluAtHl _ => (151, 172)
  | .aluImm _ _ => (152, 173)
  | .incReg _ => (174, 174)
  | .incAtHl => (175, 175)
  | .decReg _ => (176, 176)
  | .decAtHl => (177, 177)
  | .daa => (178, 178)
  | .cpl => (179, 179)
  | .scf => (180, 180)
  | .ccf => (181, 181)
  | .addHlPair _ => (185, 185)
  | .incPair _ => (186, 186)
  | .decPair _ => (187, 187)
  | .addSpOffset _ => (188, 188)
  | .rlca => (190, 190)
  | .rrca => (191, 191)
  | .rla => (192, 192)
  | .rra => (193, 193)
  | .rotReg _ _ => (194, 208)
  | .rotAtHl _ => (195, 209)
  | .bitReg _ _ => (210, 210)
  | .bitAtHl _ => (211, 211)
  | .resReg _ _ => (212, 212)
  | .resAtHl _ => (213, 213)
  | .setReg _ _ => (214, 214)
  | .setAtHl _ => (215, 215)
  | .jpAbs _ => (221, 221)
  | .jpCond _ _ => (222, 222)
  | .jpHl => (223, 223)
  | .jrRel _ => (224, 224)
  | .jrCond _ _ => (225, 225)
  | .callAbs _ => (226, 226)
  | .callCond _ _ => (227, 227)
  | .ret => (228, 228)
  | .retCond _ => (229, 229)
  | .reti => (230, 230)
  | .rst _ => (231, 231)
  | .nop => (235, 235)
  | .halt => (236, 236)
  | .stop _ => (237, 237)
  | .di => (238, 238)
  | .ei => (239, 239)
  | .illegal _ => (76, 76)

/-- The descriptor of an instruction, through its effect. -/
theorem desc_effect (e : Effect) (d : Descriptor) (h : Instr.desc e.instr = some d) :
    d.length = Effect.bytes e ∧ d.cycles = Effect.cost e ∧ d.cyclesNotTaken = Effect.costNotTaken e ∧
      (Effect.ruleRange e).1 ≤ d.rule ∧ d.rule ≤ (Effect.ruleRange e).2 := by
  cases e with
  | ldRegReg r q => cases r <;> cases q <;> (cases h; exact ⟨rfl, rfl, rfl, Nat.le_of_ble_eq_true rfl, Nat.le_of_ble_eq_true rfl⟩)
  | ldRegImm r _ => cases r <;> (cases h; exact ⟨rfl, rfl, rfl, Nat.le_of_ble_eq_true rfl, Nat.le_of_ble_eq_true rfl⟩)
  | ldRegAtHl r => cases r <;> (cases h; exact ⟨rfl, rfl, rfl, Nat.le_of_ble_eq_true rfl, Nat.le_of_ble_eq_true rfl⟩)
  | ldAtHlReg r => cases r <;> (cases h; exact ⟨rfl, rfl, rfl, Nat.le_of_ble_eq_true rfl, Nat.le_of_ble_eq_true rfl⟩)
  | ldAtHlImm _ => cases h; exact ⟨rfl, rfl, rfl, Nat.le_of_ble_eq_true rfl, Nat.le_of_ble_eq_true rfl⟩
  | ldAccAtBc => cases h; exact ⟨rfl, rfl, rfl, Nat.le_of_ble_eq_true rfl, Nat.le_of_ble_eq_true rfl⟩
  | ldAccAtDe => cases h; exact ⟨rfl, rfl, rfl, Nat.le_of_ble_eq_true rfl, Nat.le_of_ble_eq_true rfl⟩
  | ldAtBcAcc => cases h; exact ⟨rfl, rfl, rfl, Nat.le_of_ble_eq_true rfl, Nat.le_of_ble_eq_true rfl⟩
  | ldAtDeAcc => cases h; exact ⟨rfl, rfl, rfl, Nat.le_of_ble_eq_true rfl, Nat.le_of_ble_eq_true rfl⟩
  | ldAccAtAbs _ => cases h; exact ⟨rfl, rfl, rfl, Nat.le_of_ble_eq_true rfl, Nat.le_of_ble_eq_true rfl⟩
  | ldAtAbsAcc _ => cases h; exact ⟨rfl, rfl, rfl, Nat.le_of_ble_eq_true rfl, Nat.le_of_ble_eq_true rfl⟩
  | ldAccAtHigh _ => cases h; exact ⟨rfl, rfl, rfl, Nat.le_of_ble_eq_true rfl, Nat.le_of_ble_eq_true rfl⟩
  | ldAtHighAcc _ => cases h; exact ⟨rfl, rfl, rfl, Nat.le_of_ble_eq_true rfl, Nat.le_of_ble_eq_true rfl⟩
  | ldAccAtC => cases h; exact ⟨rfl, rfl, rfl, Nat.le_of_ble_eq_true rfl, Nat.le_of_ble_eq_true rfl⟩
  | ldAtCAcc => cases h; exact ⟨rfl, rfl, rfl, Nat.le_of_ble_eq_true rfl, Nat.le_of_ble_eq_true rfl⟩
  | ldAtHlIncAcc => cases h; exact ⟨rfl, rfl, rfl, Nat.le_of_ble_eq_true rfl, Nat.le_of_ble_eq_true rfl⟩
  | ldAccAtHlInc => cases h; exact ⟨rfl, rfl, rfl, Nat.le_of_ble_eq_true rfl, Nat.le_of_ble_eq_true rfl⟩
  | ldAtHlDecAcc => cases h; exact ⟨rfl, rfl, rfl, Nat.le_of_ble_eq_true rfl, Nat.le_of_ble_eq_true rfl⟩
  | ldAccAtHlDec => cases h; exact ⟨rfl, rfl, rfl, Nat.le_of_ble_eq_true rfl, Nat.le_of_ble_eq_true rfl⟩
  | ldPairImm p _ => cases p <;> (cases h; exact ⟨rfl, rfl, rfl, Nat.le_of_ble_eq_true rfl, Nat.le_of_ble_eq_true rfl⟩)
  | ldAtAbsSp _ => cases h; exact ⟨rfl, rfl, rfl, Nat.le_of_ble_eq_true rfl, Nat.le_of_ble_eq_true rfl⟩
  | ldSpFromHl => cases h; exact ⟨rfl, rfl, rfl, Nat.le_of_ble_eq_true rfl, Nat.le_of_ble_eq_true rfl⟩
  | ldHlSpOffset _ => cases h; exact ⟨rfl, rfl, rfl, Nat.le_of_ble_eq_true rfl, Nat.le_of_ble_eq_true rfl⟩
  | pushPair p => cases p <;> (cases h; exact ⟨rfl, rfl, rfl, Nat.le_of_ble_eq_true rfl, Nat.le_of_ble_eq_true rfl⟩)
  | pushAf => cases h; exact ⟨rfl, rfl, rfl, Nat.le_of_ble_eq_true rfl, Nat.le_of_ble_eq_true rfl⟩
  | popPair p => cases p <;> (cases h; exact ⟨rfl, rfl, rfl, Nat.le_of_ble_eq_true rfl, Nat.le_of_ble_eq_true rfl⟩)
  | popAf => cases h; exact ⟨rfl, rfl, rfl, Nat.le_of_ble_eq_true rfl, Nat.le_of_ble_eq_true rfl⟩
  | aluReg op r => cases op <;> cases r <;> (cases h; exact ⟨rfl, rfl, rfl, Nat.le_of_ble_eq_true rfl, Nat.le_of_ble_eq_true rfl⟩)
  | aluAtHl op => cases op <;> (cases h; exact ⟨rfl, rfl, rfl, Nat.le_of_ble_eq_true rfl, Nat.le_of_ble_eq_true rfl⟩)
  | aluImm op _ => cases op <;> (cases h; exact ⟨rfl, rfl, rfl, Nat.le_of_ble_eq_true rfl, Nat.le_of_ble_eq_true rfl⟩)
  | incReg r => cases r <;> (cases h; exact ⟨rfl, rfl, rfl, Nat.le_of_ble_eq_true rfl, Nat.le_of_ble_eq_true rfl⟩)
  | incAtHl => cases h; exact ⟨rfl, rfl, rfl, Nat.le_of_ble_eq_true rfl, Nat.le_of_ble_eq_true rfl⟩
  | decReg r => cases r <;> (cases h; exact ⟨rfl, rfl, rfl, Nat.le_of_ble_eq_true rfl, Nat.le_of_ble_eq_true rfl⟩)
  | decAtHl => cases h; exact ⟨rfl, rfl, rfl, Nat.le_of_ble_eq_true rfl, Nat.le_of_ble_eq_true rfl⟩
  | daa => cases h; exact ⟨rfl, rfl, rfl, Nat.le_of_ble_eq_true rfl, Nat.le_of_ble_eq_true rfl⟩
  | cpl => cases h; exact ⟨rfl, rfl, rfl, Nat.le_of_ble_eq_true rfl, Nat.le_of_ble_eq_true rfl⟩
  | scf => cases h; exact ⟨rfl, rfl, rfl, Nat.le_of_ble_eq_true rfl, Nat.le_of_ble_eq_true rfl⟩
  | ccf => cases h; exact ⟨rfl, rfl, rfl, Nat.le_of_ble_eq_true rfl, Nat.le_of_ble_eq_true rfl⟩
  | addHlPair p => cases p <;> (cases h; exact ⟨rfl, rfl, rfl, Nat.le_of_ble_eq_true rfl, Nat.le_of_ble_eq_true rfl⟩)
  | incPair p => cases p <;> (cases h; exact ⟨rfl, rfl, rfl, Nat.le_of_ble_eq_true rfl, Nat.le_of_ble_eq_true rfl⟩)
  | decPair p => cases p <;> (cases h; exact ⟨rfl, rfl, rfl, Nat.le_of_ble_eq_true rfl, Nat.le_of_ble_eq_true rfl⟩)
  | addSpOffset _ => cases h; exact ⟨rfl, rfl, rfl, Nat.le_of_ble_eq_true rfl, Nat.le_of_ble_eq_true rfl⟩
  | rlca => cases h; exact ⟨rfl, rfl, rfl, Nat.le_of_ble_eq_true rfl, Nat.le_of_ble_eq_true rfl⟩
  | rrca => cases h; exact ⟨rfl, rfl, rfl, Nat.le_of_ble_eq_true rfl, Nat.le_of_ble_eq_true rfl⟩
  | rla => cases h; exact ⟨rfl, rfl, rfl, Nat.le_of_ble_eq_true rfl, Nat.le_of_ble_eq_true rfl⟩
  | rra => cases h; exact ⟨rfl, rfl, rfl, Nat.le_of_ble_eq_true rfl, Nat.le_of_ble_eq_true rfl⟩
  | rotReg op r => cases op <;> cases r <;> (cases h; exact ⟨rfl, rfl, rfl, Nat.le_of_ble_eq_true rfl, Nat.le_of_ble_eq_true rfl⟩)
  | rotAtHl op => cases op <;> (cases h; exact ⟨rfl, rfl, rfl, Nat.le_of_ble_eq_true rfl, Nat.le_of_ble_eq_true rfl⟩)
  | bitReg i r => cases i <;> cases r <;> (cases h; exact ⟨rfl, rfl, rfl, Nat.le_of_ble_eq_true rfl, Nat.le_of_ble_eq_true rfl⟩)
  | bitAtHl i => cases i <;> (cases h; exact ⟨rfl, rfl, rfl, Nat.le_of_ble_eq_true rfl, Nat.le_of_ble_eq_true rfl⟩)
  | resReg i r => cases i <;> cases r <;> (cases h; exact ⟨rfl, rfl, rfl, Nat.le_of_ble_eq_true rfl, Nat.le_of_ble_eq_true rfl⟩)
  | resAtHl i => cases i <;> (cases h; exact ⟨rfl, rfl, rfl, Nat.le_of_ble_eq_true rfl, Nat.le_of_ble_eq_true rfl⟩)
  | setReg i r => cases i <;> cases r <;> (cases h; exact ⟨rfl, rfl, rfl, Nat.le_of_ble_eq_true rfl, Nat.le_of_ble_eq_true rfl⟩)
  | setAtHl i => cases i <;> (cases h; exact ⟨rfl, rfl, rfl, Nat.le_of_ble_eq_true rfl, Nat.le_of_ble_eq_true rfl⟩)
  | jpAbs _ => cases h; exact ⟨rfl, rfl, rfl, Nat.le_of_ble_eq_true rfl, Nat.le_of_ble_eq_true rfl⟩
  | jpCond cc _ => cases cc <;> (cases h; exact ⟨rfl, rfl, rfl, Nat.le_of_ble_eq_true rfl, Nat.le_of_ble_eq_true rfl⟩)
  | jpHl => cases h; exact ⟨rfl, rfl, rfl, Nat.le_of_ble_eq_true rfl, Nat.le_of_ble_eq_true rfl⟩
  | jrRel _ => cases h; exact ⟨rfl, rfl, rfl, Nat.le_of_ble_eq_true rfl, Nat.le_of_ble_eq_true rfl⟩
  | jrCond cc _ => cases cc <;> (cases h; exact ⟨rfl, rfl, rfl, Nat.le_of_ble_eq_true rfl, Nat.le_of_ble_eq_true rfl⟩)
  | callAbs _ => cases h; exact ⟨rfl, rfl, rfl, Nat.le_of_ble_eq_true rfl, Nat.le_of_ble_eq_true rfl⟩
  | callCond cc _ => cases cc <;> (cases h; exact ⟨rfl, rfl, rfl, Nat.le_of_ble_eq_true rfl, Nat.le_of_ble_eq_true rfl⟩)
  | ret => cases h; exact ⟨rfl, rfl, rfl, Nat.le_of_ble_eq_true rfl, Nat.le_of_ble_eq_true rfl⟩
  | retCond cc => cases cc <;> (cases h; exact ⟨rfl, rfl, rfl, Nat.le_of_ble_eq_true rfl, Nat.le_of_ble_eq_true rfl⟩)
  | reti => cases h; exact ⟨rfl, rfl, rfl, Nat.le_of_ble_eq_true rfl, Nat.le_of_ble_eq_true rfl⟩
  | rst t => cases t <;> (cases h; exact ⟨rfl, rfl, rfl, Nat.le_of_ble_eq_true rfl, Nat.le_of_ble_eq_true rfl⟩)
  | nop => cases h; exact ⟨rfl, rfl, rfl, Nat.le_of_ble_eq_true rfl, Nat.le_of_ble_eq_true rfl⟩
  | halt => cases h; exact ⟨rfl, rfl, rfl, Nat.le_of_ble_eq_true rfl, Nat.le_of_ble_eq_true rfl⟩
  | stop _ => cases h; exact ⟨rfl, rfl, rfl, Nat.le_of_ble_eq_true rfl, Nat.le_of_ble_eq_true rfl⟩
  | di => cases h; exact ⟨rfl, rfl, rfl, Nat.le_of_ble_eq_true rfl, Nat.le_of_ble_eq_true rfl⟩
  | ei => cases h; exact ⟨rfl, rfl, rfl, Nat.le_of_ble_eq_true rfl, Nat.le_of_ble_eq_true rfl⟩
  | illegal _ => cases h

end Sys2Proof.Machine
end

