-- ==== Sys2Proof/Laws/Run.lean ====
section
/-! SUPPORT. The record of a run, one step at a time, and that its write events are what the run added to
the trace. -/

namespace Sys2Proof.Machine

@[simp] theorem State.stepReport_result (s : State) : s.stepReport.result = s.result := rfl
@[simp] theorem State.stepReport_cycles (s : State) : s.stepReport.cycles = s.cycles := rfl

/-- `report` is what puts the outcome and the cycle count out (R252, R253). -/
@[simp] theorem State.report_stepReport (s : State) (r : StepResult) (n : Nat) : (s.report r n).stepReport = ⟨r, n⟩ := rfl

@[simp] theorem State.record_zero (s : State) : State.record 0 s = ⟨s, [], [], [], none⟩ := rfl

@[simp] theorem RunRecord.after_final (s t : State) (r : RunRecord) : (r.after s t).final = r.final := rfl
@[simp] theorem RunRecord.after_writes (s t : State) (r : RunRecord) :
    (r.after s t).writes = s.newEvents t ++ r.writes := rfl
@[simp] theorem RunRecord.after_acks (s t : State) (r : RunRecord) : (r.after s t).acks = t.ack.toList ++ r.acks := rfl
@[simp] theorem RunRecord.after_results (s t : State) (r : RunRecord) : (r.after s t).results = t.stepReport :: r.results := rfl
@[simp] theorem RunRecord.after_stop (s t : State) (r : RunRecord) : (r.after s t).stop = r.stop := rfl

/-- A step's outputs stand before those of the steps after it. -/
theorem State.record_next {s t : State} (h : step s = .next t) (n : Nat) :
    State.record (n + 1) s = (State.record n t).after s t := by
  simp [State.record, h]

/-- A refused step puts nothing out and marks the record (R268). -/
theorem State.record_refused {s : State} {r : Refusal} (h : step s = .refused r) (n : Nat) :
    State.record (n + 1) s = ⟨s, [], [], [], some (.refused r)⟩ := by
  simp [State.record, h]

/-- The new events are those put before the old trace, in program order. -/
theorem State.newEvents_of_append {s t : State} {evs : List WriteEvent} (h : t.trace = evs ++ s.trace) :
    s.newEvents t = evs.reverse := by
  simp [State.newEvents, h]

/-- Whatever an instruction does, it only puts events before the trace (R58). -/
theorem run_trace_suffix (e : Effect) {s t : State} (h : Effect.run e s = .next t) : s.trace <:+ t.trace := by
  cases e with
  | ldRegReg r q => cases (runLdRegReg_next r q s).symm.trans h; simp
  | ldRegImm r n => cases (runLdRegImm_next r n s).symm.trans h; simp
  | ldRegAtHl r => cases (runLdRegAtHl_next r s).symm.trans h; simp
  | ldAtHlReg r => cases (runLdAtHlReg_next r s).symm.trans h; simp
  | ldAtHlImm n => cases (runLdAtHlImm_next n s).symm.trans h; simp
  | ldAccAtBc => cases (runLdAccAtBc_next s).symm.trans h; simp
  | ldAccAtDe => cases (runLdAccAtDe_next s).symm.trans h; simp
  | ldAtBcAcc => cases (runLdAtBcAcc_next s).symm.trans h; simp
  | ldAtDeAcc => cases (runLdAtDeAcc_next s).symm.trans h; simp
  | ldAccAtAbs w => cases (runLdAccAtAbs_next w s).symm.trans h; simp
  | ldAtAbsAcc w => cases (runLdAtAbsAcc_next w s).symm.trans h; simp
  | ldAccAtHigh n => cases (runLdAccAtHigh_next n s).symm.trans h; simp
  | ldAtHighAcc n => cases (runLdAtHighAcc_next n s).symm.trans h; simp
  | ldAccAtC => cases (runLdAccAtC_next s).symm.trans h; simp
  | ldAtCAcc => cases (runLdAtCAcc_next s).symm.trans h; simp
  | ldAtHlIncAcc => cases (runLdAtHlIncAcc_next s).symm.trans h; simp
  | ldAccAtHlInc => cases (runLdAccAtHlInc_next s).symm.trans h; simp
  | ldAtHlDecAcc => cases (runLdAtHlDecAcc_next s).symm.trans h; simp
  | ldAccAtHlDec => cases (runLdAccAtHlDec_next s).symm.trans h; simp
  | ldPairImm p w => cases (runLdPairImm_next p w s).symm.trans h; simp
  | ldAtAbsSp w => cases (runLdAtAbsSp_next w s).symm.trans h; simp [List.suffix_cons_iff]
  | ldSpFromHl => cases (runLdSpFromHl_next s).symm.trans h; simp
  | ldHlSpOffset e => cases (runLdHlSpOffset_next e s).symm.trans h; simp
  | pushPair p => cases (runPushPair_next p s).symm.trans h; simp [List.suffix_cons_iff]
  | pushAf => cases (runPushAf_next s).symm.trans h; simp [List.suffix_cons_iff]
  | popPair p => cases (runPopPair_next p s).symm.trans h; simp
  | popAf => cases (runPopAf_next s).symm.trans h; simp
  | aluReg op r => cases (runAluReg_next op r s).symm.trans h; simp
  | aluAtHl op => cases (runAluAtHl_next op s).symm.trans h; simp
  | aluImm op n => cases (runAluImm_next op n s).symm.trans h; simp
  | incReg r => cases (runIncReg_next r s).symm.trans h; simp
  | incAtHl => cases (runIncAtHl_next s).symm.trans h; simp
  | decReg r => cases (runDecReg_next r s).symm.trans h; simp
  | decAtHl => cases (runDecAtHl_next s).symm.trans h; simp
  | daa => cases (runDaa_next s).symm.trans h; simp
  | cpl => cases (runCpl_next s).symm.trans h; simp
  | scf => cases (runScf_next s).symm.trans h; simp
  | ccf => cases (runCcf_next s).symm.trans h; simp
  | addHlPair p => cases (runAddHlPair_next p s).symm.trans h; simp
  | incPair p => cases (runIncPair_next p s).symm.trans h; simp
  | decPair p => cases (runDecPair_next p s).symm.trans h; simp
  | addSpOffset e => cases (runAddSpOffset_next e s).symm.trans h; simp
  | rlca => cases (runRlca_next s).symm.trans h; simp
  | rrca => cases (runRrca_next s).symm.trans h; simp
  | rla => cases (runRla_next s).symm.trans h; simp
  | rra => cases (runRra_next s).symm.trans h; simp
  | rotReg op r => cases (runRotReg_next op r s).symm.trans h; simp
  | rotAtHl op => cases (runRotAtHl_next op s).symm.trans h; simp
  | bitReg i r => cases (runBitReg_next i r s).symm.trans h; simp
  | bitAtHl i => cases (runBitAtHl_next i s).symm.trans h; simp
  | resReg i r => cases (runResReg_next i r s).symm.trans h; simp
  | resAtHl i => cases (runResAtHl_next i s).symm.trans h; simp
  | setReg i r => cases (runSetReg_next i r s).symm.trans h; simp
  | setAtHl i => cases (runSetAtHl_next i s).symm.trans h; simp
  | jpAbs w => cases (runJpAbs_next w s).symm.trans h; simp
  | jpCond cc w => cases (runJpCond_next cc w s).symm.trans h; split <;> simp
  | jpHl => cases (runJpHl_next s).symm.trans h; simp
  | jrRel e => cases (runJrRel_next e s).symm.trans h; simp
  | jrCond cc e => cases (runJrCond_next cc e s).symm.trans h; split <;> simp
  | callAbs w => cases (runCallAbs_next w s).symm.trans h; simp [List.suffix_cons_iff]
  | callCond cc w => cases (runCallCond_next cc w s).symm.trans h; split <;> simp [List.suffix_cons_iff]
  | ret => cases (runRet_next s).symm.trans h; simp
  | retCond cc => cases (runRetCond_next cc s).symm.trans h; split <;> simp
  | reti => cases (runReti_next s).symm.trans h; simp
  | rst t => cases (runRst_next t s).symm.trans h; simp [List.suffix_cons_iff]
  | nop => cases (runNop_next s).symm.trans h; simp
  | stop pad => cases (runStop_next pad s).symm.trans h; simp
  | di => cases (runDi_next s).symm.trans h; simp
  | ei => cases (runEi_next s).symm.trans h; split <;> [simp; (split <;> simp)]
  | illegal b => cases (runIllegal_next b s).symm.trans h; simp
  | halt =>
    rcases runHalt_cases s with ⟨_, _, hr⟩ | ⟨_, hr⟩ <;> cases hr.symm.trans h
    simp

/-- What the instruction part of a step does to the trace. -/
theorem State.execute_trace_suffix {s t : State} (h : s.execute = .next t) : s.trace <:+ t.trace := by
  by_cases hr : s.run = .running
  · rw [State.execute_running hr, exec_eq_run] at h
    exact run_trace_suffix _ h
  · cases hs : s.run <;> simp_all [State.execute] <;> cases h <;> simp

/-- Commit, poll and report put only the events of a dispatch before the trace. -/
theorem State.finish_trace_suffix (s t : State) : t.trace <:+ (s.finish t).trace := by
  rcases State.finish_cases s t with ⟨f, _, h⟩ | ⟨_, h⟩ <;> rw [h]
  · simp
  · have hp : ∀ u : State, u.trace <:+ (u.pollUnlessStopped s.irqSample).trace := by
      intro u
      unfold State.pollUnlessStopped
      split
      · exact List.suffix_refl _
      · rcases State.poll_cases u s.irqSample with ⟨_, h⟩ | ⟨v, _, _, h⟩ | ⟨v, _, _, h⟩ <;>
          simp [h, List.suffix_cons_iff]
    simpa using hp (t.commitEi s.imeSched)

/-- The host's action puts no event out (R290). -/
@[simp] theorem State.afterHost_trace (s : State) : s.afterHost.trace = s.trace := by
  unfold State.afterHost
  rcases State.hostAct_cases (s.setHostIn s.hostIn.tail) s.hostCmd with h | ⟨m, h⟩ | h | ⟨x, h⟩ | ⟨i, h⟩ <;> simp [h]

/-- A step only puts events before the trace (R58). -/
theorem step_trace_suffix {s t : State} (h : step s = .next t) : s.trace <:+ t.trace := by
  have h' : (s.afterHost.setAck none).stepWith s.single = .next t := h
  rcases State.stepWith_cases (s.afterHost.setAck none) s.single with
    ⟨_, e⟩ | ⟨_, _, _, e⟩ | ⟨_, _, e⟩ | ⟨_, _, _, e⟩ <;> rw [e] at h'
  · cases h'; simp
  · cases h'; simp
  · cases h'; simp
  · obtain ⟨v, hv, rfl⟩ := State.executingStep_next.1 h'
    have := (State.execute_trace_suffix hv).trans (State.finish_trace_suffix (s.afterHost.setAck none) v)
    simpa using this

/-- The write events of a record are what the run put before the trace (R58, R259). -/
theorem State.record_writes (n : Nat) (s : State) :
    (State.record n s).final.trace = (State.record n s).writes.reverse ++ s.trace := by
  induction n generalizing s with
  | zero => simp
  | succ n ih =>
    unfold State.record
    split
    · next t h =>
      obtain ⟨evs, he⟩ := step_trace_suffix h
      simp [ih t, State.newEvents_of_append he.symm, ← he]
    · simp
    · simp

end Sys2Proof.Machine
end

