-- ==== Sys2Proof/Laws/Stores.lean ====
section
/-! SUPPORT. Every instruction keeps memory in canonical form. -/

namespace Sys2Proof.Machine

theorem advance_wf {s : State} {n : Nat} (h : s.mem.wf = true) : (s.advance n).mem.wf = true := h

theorem addClk_wf {s : State} {n : Nat} (h : s.mem.wf = true) : (s.addClk n).mem.wf = true := h

theorem setPc_wf {s : State} {x : Word} (h : s.mem.wf = true) : (s.setPc x).mem.wf = true := h

theorem setFlags_wf {s : State} {x : Flags} (h : s.mem.wf = true) : (s.setFlags x).mem.wf = true := h

theorem setPair_wf {s : State} {p : Pair} {v : Word} (h : s.mem.wf = true) : (s.setPair p v).mem.wf = true := by
  rw [State.setPair_mem]; exact h

/-- Whatever an instruction does, memory stays in canonical form (R24, R44). -/
theorem run_mem_wf (e : Effect) {s t : State} (h : Effect.run e s = .next t) (hw : s.mem.wf = true) :
    t.mem.wf = true := by
  cases e with
  | ldRegReg r q => cases (runLdRegReg_next r q s).symm.trans h; simpa using hw
  | ldRegImm r n => cases (runLdRegImm_next r n s).symm.trans h; simpa using hw
  | ldRegAtHl r => cases (runLdRegAtHl_next r s).symm.trans h; simpa using hw
  | ldAtHlReg r => cases (runLdAtHlReg_next r s).symm.trans h; exact addClk_wf (State.writeByte_wf (advance_wf hw))
  | ldAtHlImm n => cases (runLdAtHlImm_next n s).symm.trans h; exact addClk_wf (State.writeByte_wf (advance_wf hw))
  | ldAccAtBc => cases (runLdAccAtBc_next s).symm.trans h; simpa using hw
  | ldAccAtDe => cases (runLdAccAtDe_next s).symm.trans h; simpa using hw
  | ldAtBcAcc => cases (runLdAtBcAcc_next s).symm.trans h; exact addClk_wf (State.writeByte_wf (advance_wf hw))
  | ldAtDeAcc => cases (runLdAtDeAcc_next s).symm.trans h; exact addClk_wf (State.writeByte_wf (advance_wf hw))
  | ldAccAtAbs w => cases (runLdAccAtAbs_next w s).symm.trans h; simpa using hw
  | ldAtAbsAcc w => cases (runLdAtAbsAcc_next w s).symm.trans h; exact addClk_wf (State.writeByte_wf (advance_wf hw))
  | ldAccAtHigh n => cases (runLdAccAtHigh_next n s).symm.trans h; simpa using hw
  | ldAtHighAcc n => cases (runLdAtHighAcc_next n s).symm.trans h; exact addClk_wf (State.writeByte_wf (advance_wf hw))
  | ldAccAtC => cases (runLdAccAtC_next s).symm.trans h; simpa using hw
  | ldAtCAcc => cases (runLdAtCAcc_next s).symm.trans h; exact addClk_wf (State.writeByte_wf (advance_wf hw))
  | ldAtHlIncAcc => cases (runLdAtHlIncAcc_next s).symm.trans h; exact addClk_wf (setPair_wf (State.writeByte_wf (advance_wf hw)))
  | ldAccAtHlInc => cases (runLdAccAtHlInc_next s).symm.trans h; simpa using hw
  | ldAtHlDecAcc => cases (runLdAtHlDecAcc_next s).symm.trans h; exact addClk_wf (setPair_wf (State.writeByte_wf (advance_wf hw)))
  | ldAccAtHlDec => cases (runLdAccAtHlDec_next s).symm.trans h; simpa using hw
  | ldPairImm p w => cases (runLdPairImm_next p w s).symm.trans h; simpa using hw
  | ldAtAbsSp w => cases (runLdAtAbsSp_next w s).symm.trans h; exact addClk_wf (State.writeWord_wf (advance_wf hw))
  | ldSpFromHl => cases (runLdSpFromHl_next s).symm.trans h; simpa using hw
  | ldHlSpOffset e => cases (runLdHlSpOffset_next e s).symm.trans h; simpa using hw
  | pushPair p => cases (runPushPair_next p s).symm.trans h; exact addClk_wf (State.push16_wf (advance_wf hw))
  | pushAf => cases (runPushAf_next s).symm.trans h; exact addClk_wf (State.push16_wf (advance_wf hw))
  | popPair p => cases (runPopPair_next p s).symm.trans h; simpa using hw
  | popAf => cases (runPopAf_next s).symm.trans h; simpa using hw
  | aluReg op r => cases (runAluReg_next op r s).symm.trans h; simpa using hw
  | aluAtHl op => cases (runAluAtHl_next op s).symm.trans h; simpa using hw
  | aluImm op n => cases (runAluImm_next op n s).symm.trans h; simpa using hw
  | incReg r => cases (runIncReg_next r s).symm.trans h; simpa using hw
  | incAtHl => cases (runIncAtHl_next s).symm.trans h; exact addClk_wf (setFlags_wf (State.writeByte_wf (advance_wf hw)))
  | decReg r => cases (runDecReg_next r s).symm.trans h; simpa using hw
  | decAtHl => cases (runDecAtHl_next s).symm.trans h; exact addClk_wf (setFlags_wf (State.writeByte_wf (advance_wf hw)))
  | daa => cases (runDaa_next s).symm.trans h; simpa using hw
  | cpl => cases (runCpl_next s).symm.trans h; simpa using hw
  | scf => cases (runScf_next s).symm.trans h; simpa using hw
  | ccf => cases (runCcf_next s).symm.trans h; simpa using hw
  | addHlPair p => cases (runAddHlPair_next p s).symm.trans h; simpa using hw
  | incPair p => cases (runIncPair_next p s).symm.trans h; simpa using hw
  | decPair p => cases (runDecPair_next p s).symm.trans h; simpa using hw
  | addSpOffset e => cases (runAddSpOffset_next e s).symm.trans h; simpa using hw
  | rlca => cases (runRlca_next s).symm.trans h; simpa using hw
  | rrca => cases (runRrca_next s).symm.trans h; simpa using hw
  | rla => cases (runRla_next s).symm.trans h; simpa using hw
  | rra => cases (runRra_next s).symm.trans h; simpa using hw
  | rotReg op r => cases (runRotReg_next op r s).symm.trans h; simpa using hw
  | rotAtHl op => cases (runRotAtHl_next op s).symm.trans h; exact addClk_wf (setFlags_wf (State.writeByte_wf (advance_wf hw)))
  | bitReg i r => cases (runBitReg_next i r s).symm.trans h; simpa using hw
  | bitAtHl i => cases (runBitAtHl_next i s).symm.trans h; simpa using hw
  | resReg i r => cases (runResReg_next i r s).symm.trans h; simpa using hw
  | resAtHl i => cases (runResAtHl_next i s).symm.trans h; exact addClk_wf (State.writeByte_wf (advance_wf hw))
  | setReg i r => cases (runSetReg_next i r s).symm.trans h; simpa using hw
  | setAtHl i => cases (runSetAtHl_next i s).symm.trans h; exact addClk_wf (State.writeByte_wf (advance_wf hw))
  | jpAbs w => cases (runJpAbs_next w s).symm.trans h; simpa using hw
  | jpCond cc w => cases (runJpCond_next cc w s).symm.trans h; split <;> simpa using hw
  | jpHl => cases (runJpHl_next s).symm.trans h; simpa using hw
  | jrRel e => cases (runJrRel_next e s).symm.trans h; simpa using hw
  | jrCond cc e => cases (runJrCond_next cc e s).symm.trans h; split <;> simpa using hw
  | callAbs w => cases (runCallAbs_next w s).symm.trans h; exact addClk_wf (setPc_wf (State.push16_wf (advance_wf hw)))
  | callCond cc w => cases (runCallCond_next cc w s).symm.trans h; split <;> [exact addClk_wf (setPc_wf (State.push16_wf (advance_wf hw))); simpa using hw]
  | ret => cases (runRet_next s).symm.trans h; simpa using hw
  | retCond cc => cases (runRetCond_next cc s).symm.trans h; split <;> simpa using hw
  | reti => cases (runReti_next s).symm.trans h; simpa using hw
  | rst t => cases (runRst_next t s).symm.trans h; exact addClk_wf (setPc_wf (State.push16_wf (advance_wf hw)))
  | nop => cases (runNop_next s).symm.trans h; simpa using hw
  | halt =>
    rcases runHalt_cases s with ⟨_, _, hr⟩ | ⟨_, hr⟩ <;> cases hr.symm.trans h
    simpa using hw
  | stop pad => cases (runStop_next pad s).symm.trans h; simpa using hw
  | di => cases (runDi_next s).symm.trans h; simpa using hw
  | ei => cases (runEi_next s).symm.trans h; split <;> [simpa using hw; (split <;> simpa using hw)]
  | illegal b => cases (runIllegal_next b s).symm.trans h; simpa using hw

/-- The same, of `exec`. -/
theorem exec_mem_wf {i : Instr} {s t : State} (h : exec i s = .next t) (hw : s.mem.wf = true) :
    t.mem.wf = true :=
  run_mem_wf (Instr.effect i) ((exec_eq_run i s).symm.trans h) hw

end Sys2Proof.Machine
end

