-- ==== Sys2Proof/Tests/Slice0.lean ====
section
/-! SUPPORT. Small tests.  Every expected value comes from spec/: opcode words from the tables of 30_encoding.md,
single-step results from 95_test_vectors.md; then one witness for the hypotheses of each statement. -/

namespace Sys2Proof.Tests

open Sys2Proof Sys2Proof.Machine

/-- The state after reset with bytes placed from an address upward and `PC` there. -/
def start (pc : Word) : List Byte → State
  | code => { State.reset with pc := pc, mem := placed [] pc code }
where
  placed (m : Memory) (a : Word) : List Byte → Memory
    | [] => m
    | b :: bs => placed (m.write a.toNat b) (a + 1) bs

/-- A state with one more byte of memory. -/
def poke (s : State) (a : Word) (v : Byte) : State := { s with mem := s.mem.write a.toNat v }

/-- One step, if it gives a next state. -/
def after (s : State) : Option State :=
  match step s with
  | .next t => some t
  | .fault _ => none
  | .refused _ => none

/-! ## Ill-formed terms -/

theorem test_wf_illegal : (undefinedBytes.all fun b => (Instr.illegal b).wf) = true := by decide

theorem test_wf_refuses_nop_byte : (Instr.illegal 0x00).wf = false := by decide

theorem test_wf_refuses_escape_byte : (Instr.illegal 0xCB).wf = false := by decide

/-! ## Decoding every word of the two tables, operand bytes 0x34 0x12 (R75, R76, R78, R86) -/

theorem test_decode_row_00 :
    ([0x00, 0x01, 0x02, 0x03, 0x04, 0x05, 0x06, 0x07, 0x08, 0x09, 0x0A, 0x0B, 0x0C, 0x0D, 0x0E, 0x0F] : List Byte).map
        (fun b => decodeBytes b 0x34 0x12) =
      [.nop, .ldBcD16 0x1234, .ldAtBcA, .incBc, .incB, .decB, .ldBD8 0x34, .rlca, .ldAtA16Sp 0x1234, .addHlBc,
       .ldAAtBc, .decBc, .incC, .decC, .ldCD8 0x34, .rrca] := by rfl

theorem test_decode_row_10 :
    ([0x10, 0x11, 0x12, 0x13, 0x14, 0x15, 0x16, 0x17, 0x18, 0x19, 0x1A, 0x1B, 0x1C, 0x1D, 0x1E, 0x1F] : List Byte).map
        (fun b => decodeBytes b 0x34 0x12) =
      [.stop 0x34, .ldDeD16 0x1234, .ldAtDeA, .incDe, .incD, .decD, .ldDD8 0x34, .rla, .jrR8 0x34, .addHlDe,
       .ldAAtDe, .decDe, .incE, .decE, .ldED8 0x34, .rra] := by rfl

theorem test_decode_row_20 :
    ([0x20, 0x21, 0x22, 0x23, 0x24, 0x25, 0x26, 0x27, 0x28, 0x29, 0x2A, 0x2B, 0x2C, 0x2D, 0x2E, 0x2F] : List Byte).map
        (fun b => decodeBytes b 0x34 0x12) =
      [.jrNzR8 0x34, .ldHlD16 0x1234, .ldAtHlIncA, .incHl, .incH, .decH, .ldHD8 0x34, .daa, .jrZR8 0x34,
       .addHlHl, .ldAAtHlInc, .decHl, .incL, .decL, .ldLD8 0x34, .cpl] := by rfl

theorem test_decode_row_30 :
    ([0x30, 0x31, 0x32, 0x33, 0x34, 0x35, 0x36, 0x37, 0x38, 0x39, 0x3A, 0x3B, 0x3C, 0x3D, 0x3E, 0x3F] : List Byte).map
        (fun b => decodeBytes b 0x34 0x12) =
      [.jrNcR8 0x34, .ldSpD16 0x1234, .ldAtHlDecA, .incSp, .incAtHl, .decAtHl, .ldAtHlD8 0x34, .scf,
       .jrCR8 0x34, .addHlSp, .ldAAtHlDec, .decSp, .incA, .decA, .ldAD8 0x34, .ccf] := by rfl

theorem test_decode_row_40 :
    ([0x40, 0x41, 0x42, 0x43, 0x44, 0x45, 0x46, 0x47, 0x48, 0x49, 0x4A, 0x4B, 0x4C, 0x4D, 0x4E, 0x4F] : List Byte).map
        (fun b => decodeBytes b 0x34 0x12) =
      [.ldBB, .ldBC, .ldBD, .ldBE, .ldBH, .ldBL, .ldBAtHl, .ldBA, .ldCB, .ldCC, .ldCD, .ldCE, .ldCH, .ldCL,
       .ldCAtHl, .ldCA] := by rfl

theorem test_decode_row_50 :
    ([0x50, 0x51, 0x52, 0x53, 0x54, 0x55, 0x56, 0x57, 0x58, 0x59, 0x5A, 0x5B, 0x5C, 0x5D, 0x5E, 0x5F] : List Byte).map
        (fun b => decodeBytes b 0x34 0x12) =
      [.ldDB, .ldDC, .ldDD, .ldDE, .ldDH, .ldDL, .ldDAtHl, .ldDA, .ldEB, .ldEC, .ldED, .ldEE, .ldEH, .ldEL,
       .ldEAtHl, .ldEA] := by rfl

theorem test_decode_row_60 :
    ([0x60, 0x61, 0x62, 0x63, 0x64, 0x65, 0x66, 0x67, 0x68, 0x69, 0x6A, 0x6B, 0x6C, 0x6D, 0x6E, 0x6F] : List Byte).map
        (fun b => decodeBytes b 0x34 0x12) =
      [.ldHB, .ldHC, .ldHD, .ldHE, .ldHH, .ldHL, .ldHAtHl, .ldHA, .ldLB, .ldLC, .ldLD, .ldLE, .ldLH, .ldLL,
       .ldLAtHl, .ldLA] := by rfl

theorem test_decode_row_70 :
    ([0x70, 0x71, 0x72, 0x73, 0x74, 0x75, 0x76, 0x77, 0x78, 0x79, 0x7A, 0x7B, 0x7C, 0x7D, 0x7E, 0x7F] : List Byte).map
        (fun b => decodeBytes b 0x34 0x12) =
      [.ldAtHlB, .ldAtHlC, .ldAtHlD, .ldAtHlE, .ldAtHlH, .ldAtHlL, .halt, .ldAtHlA, .ldAB, .ldAC, .ldAD, .ldAE,
       .ldAH, .ldAL, .ldAAtHl, .ldAA] := by rfl

theorem test_decode_row_80 :
    ([0x80, 0x81, 0x82, 0x83, 0x84, 0x85, 0x86, 0x87, 0x88, 0x89, 0x8A, 0x8B, 0x8C, 0x8D, 0x8E, 0x8F] : List Byte).map
        (fun b => decodeBytes b 0x34 0x12) =
      [.addAB, .addAC, .addAD, .addAE, .addAH, .addAL, .addAAtHl, .addAA, .adcAB, .adcAC, .adcAD, .adcAE,
       .adcAH, .adcAL, .adcAAtHl, .adcAA] := by rfl

theorem test_decode_row_90 :
    ([0x90, 0x91, 0x92, 0x93, 0x94, 0x95, 0x96, 0x97, 0x98, 0x99, 0x9A, 0x9B, 0x9C, 0x9D, 0x9E, 0x9F] : List Byte).map
        (fun b => decodeBytes b 0x34 0x12) =
      [.subB, .subC, .subD, .subE, .subH, .subL, .subAtHl, .subA, .sbcAB, .sbcAC, .sbcAD, .sbcAE, .sbcAH,
       .sbcAL, .sbcAAtHl, .sbcAA] := by rfl

theorem test_decode_row_A0 :
    ([0xA0, 0xA1, 0xA2, 0xA3, 0xA4, 0xA5, 0xA6, 0xA7, 0xA8, 0xA9, 0xAA, 0xAB, 0xAC, 0xAD, 0xAE, 0xAF] : List Byte).map
        (fun b => decodeBytes b 0x34 0x12) =
      [.andB, .andC, .andD, .andE, .andH, .andL, .andAtHl, .andA, .xorB, .xorC, .xorD, .xorE, .xorH, .xorL,
       .xorAtHl, .xorA] := by rfl

theorem test_decode_row_B0 :
    ([0xB0, 0xB1, 0xB2, 0xB3, 0xB4, 0xB5, 0xB6, 0xB7, 0xB8, 0xB9, 0xBA, 0xBB, 0xBC, 0xBD, 0xBE, 0xBF] : List Byte).map
        (fun b => decodeBytes b 0x34 0x12) =
      [.orB, .orC, .orD, .orE, .orH, .orL, .orAtHl, .orA, .cpB, .cpC, .cpD, .cpE, .cpH, .cpL, .cpAtHl, .cpA] := by rfl

theorem test_decode_row_C0 :
    ([0xC0, 0xC1, 0xC2, 0xC3, 0xC4, 0xC5, 0xC6, 0xC7, 0xC8, 0xC9, 0xCA, 0xCC, 0xCD, 0xCE, 0xCF] : List Byte).map
        (fun b => decodeBytes b 0x34 0x12) =
      [.retNz, .popBc, .jpNzA16 0x1234, .jpA16 0x1234, .callNzA16 0x1234, .pushBc, .addAD8 0x34, .rst00, .retZ,
       .ret, .jpZA16 0x1234, .callZA16 0x1234, .callA16 0x1234, .adcAD8 0x34, .rst08] := by rfl

theorem test_decode_row_D0 :
    ([0xD0, 0xD1, 0xD2, 0xD3, 0xD4, 0xD5, 0xD6, 0xD7, 0xD8, 0xD9, 0xDA, 0xDB, 0xDC, 0xDD, 0xDE, 0xDF] : List Byte).map
        (fun b => decodeBytes b 0x34 0x12) =
      [.retNc, .popDe, .jpNcA16 0x1234, .illegal 0xD3, .callNcA16 0x1234, .pushDe, .subD8 0x34, .rst10, .retC,
       .reti, .jpCA16 0x1234, .illegal 0xDB, .callCA16 0x1234, .illegal 0xDD, .sbcAD8 0x34, .rst18] := by rfl

theorem test_decode_row_E0 :
    ([0xE0, 0xE1, 0xE2, 0xE3, 0xE4, 0xE5, 0xE6, 0xE7, 0xE8, 0xE9, 0xEA, 0xEB, 0xEC, 0xED, 0xEE, 0xEF] : List Byte).map
        (fun b => decodeBytes b 0x34 0x12) =
      [.ldhAtA8A 0x34, .popHl, .ldAtCA, .illegal 0xE3, .illegal 0xE4, .pushHl, .andD8 0x34, .rst20,
       .addSpR8 0x34, .jpAtHl, .ldAtA16A 0x1234, .illegal 0xEB, .illegal 0xEC, .illegal 0xED, .xorD8 0x34,
       .rst28] := by rfl

theorem test_decode_row_F0 :
    ([0xF0, 0xF1, 0xF2, 0xF3, 0xF4, 0xF5, 0xF6, 0xF7, 0xF8, 0xF9, 0xFA, 0xFB, 0xFC, 0xFD, 0xFE, 0xFF] : List Byte).map
        (fun b => decodeBytes b 0x34 0x12) =
      [.ldhAAtA8 0x34, .popAf, .ldAAtC, .di, .illegal 0xF4, .pushAf, .orD8 0x34, .rst30, .ldHlSpR8 0x34,
       .ldSpHl, .ldAAtA16 0x1234, .ei, .illegal 0xFC, .illegal 0xFD, .cpD8 0x34, .rst38] := by rfl

theorem test_decode_ext_00 :
    ([0x00, 0x01, 0x02, 0x03, 0x04, 0x05, 0x06, 0x07, 0x08, 0x09, 0x0A, 0x0B, 0x0C, 0x0D, 0x0E, 0x0F] : List Byte).map
        (fun b => decodeBytes 0xCB b 0x12) =
      [.rlcB, .rlcC, .rlcD, .rlcE, .rlcH, .rlcL, .rlcAtHl, .rlcA, .rrcB, .rrcC, .rrcD, .rrcE, .rrcH, .rrcL,
       .rrcAtHl, .rrcA] := by rfl

theorem test_decode_ext_10 :
    ([0x10, 0x11, 0x12, 0x13, 0x14, 0x15, 0x16, 0x17, 0x18, 0x19, 0x1A, 0x1B, 0x1C, 0x1D, 0x1E, 0x1F] : List Byte).map
        (fun b => decodeBytes 0xCB b 0x12) =
      [.rlB, .rlC, .rlD, .rlE, .rlH, .rlL, .rlAtHl, .rlA, .rrB, .rrC, .rrD, .rrE, .rrH, .rrL, .rrAtHl, .rrA] := by rfl

theorem test_decode_ext_20 :
    ([0x20, 0x21, 0x22, 0x23, 0x24, 0x25, 0x26, 0x27, 0x28, 0x29, 0x2A, 0x2B, 0x2C, 0x2D, 0x2E, 0x2F] : List Byte).map
        (fun b => decodeBytes 0xCB b 0x12) =
      [.slaB, .slaC, .slaD, .slaE, .slaH, .slaL, .slaAtHl, .slaA, .sraB, .sraC, .sraD, .sraE, .sraH, .sraL,
       .sraAtHl, .sraA] := by rfl

theorem test_decode_ext_30 :
    ([0x30, 0x31, 0x32, 0x33, 0x34, 0x35, 0x36, 0x37, 0x38, 0x39, 0x3A, 0x3B, 0x3C, 0x3D, 0x3E, 0x3F] : List Byte).map
        (fun b => decodeBytes 0xCB b 0x12) =
      [.swapB, .swapC, .swapD, .swapE, .swapH, .swapL, .swapAtHl, .swapA, .srlB, .srlC, .srlD, .srlE, .srlH,
       .srlL, .srlAtHl, .srlA] := by rfl

theorem test_decode_ext_40 :
    ([0x40, 0x41, 0x42, 0x43, 0x44, 0x45, 0x46, 0x47, 0x48, 0x49, 0x4A, 0x4B, 0x4C, 0x4D, 0x4E, 0x4F] : List Byte).map
        (fun b => decodeBytes 0xCB b 0x12) =
      [.bit0B, .bit0C, .bit0D, .bit0E, .bit0H, .bit0L, .bit0AtHl, .bit0A, .bit1B, .bit1C, .bit1D, .bit1E,
       .bit1H, .bit1L, .bit1AtHl, .bit1A] := by rfl

theorem test_decode_ext_50 :
    ([0x50, 0x51, 0x52, 0x53, 0x54, 0x55, 0x56, 0x57, 0x58, 0x59, 0x5A, 0x5B, 0x5C, 0x5D, 0x5E, 0x5F] : List Byte).map
        (fun b => decodeBytes 0xCB b 0x12) =
      [.bit2B, .bit2C, .bit2D, .bit2E, .bit2H, .bit2L, .bit2AtHl, .bit2A, .bit3B, .bit3C, .bit3D, .bit3E,
       .bit3H, .bit3L, .bit3AtHl, .bit3A] := by rfl

theorem test_decode_ext_60 :
    ([0x60, 0x61, 0x62, 0x63, 0x64, 0x65, 0x66, 0x67, 0x68, 0x69, 0x6A, 0x6B, 0x6C, 0x6D, 0x6E, 0x6F] : List Byte).map
        (fun b => decodeBytes 0xCB b 0x12) =
      [.bit4B, .bit4C, .bit4D, .bit4E, .bit4H, .bit4L, .bit4AtHl, .bit4A, .bit5B, .bit5C, .bit5D, .bit5E,
       .bit5H, .bit5L, .bit5AtHl, .bit5A] := by rfl

theorem test_decode_ext_70 :
    ([0x70, 0x71, 0x72, 0x73, 0x74, 0x75, 0x76, 0x77, 0x78, 0x79, 0x7A, 0x7B, 0x7C, 0x7D, 0x7E, 0x7F] : List Byte).map
        (fun b => decodeBytes 0xCB b 0x12) =
      [.bit6B, .bit6C, .bit6D, .bit6E, .bit6H, .bit6L, .bit6AtHl, .bit6A, .bit7B, .bit7C, .bit7D, .bit7E,
       .bit7H, .bit7L, .bit7AtHl, .bit7A] := by rfl

theorem test_decode_ext_80 :
    ([0x80, 0x81, 0x82, 0x83, 0x84, 0x85, 0x86, 0x87, 0x88, 0x89, 0x8A, 0x8B, 0x8C, 0x8D, 0x8E, 0x8F] : List Byte).map
        (fun b => decodeBytes 0xCB b 0x12) =
      [.res0B, .res0C, .res0D, .res0E, .res0H, .res0L, .res0AtHl, .res0A, .res1B, .res1C, .res1D, .res1E,
       .res1H, .res1L, .res1AtHl, .res1A] := by rfl

theorem test_decode_ext_90 :
    ([0x90, 0x91, 0x92, 0x93, 0x94, 0x95, 0x96, 0x97, 0x98, 0x99, 0x9A, 0x9B, 0x9C, 0x9D, 0x9E, 0x9F] : List Byte).map
        (fun b => decodeBytes 0xCB b 0x12) =
      [.res2B, .res2C, .res2D, .res2E, .res2H, .res2L, .res2AtHl, .res2A, .res3B, .res3C, .res3D, .res3E,
       .res3H, .res3L, .res3AtHl, .res3A] := by rfl

theorem test_decode_ext_A0 :
    ([0xA0, 0xA1, 0xA2, 0xA3, 0xA4, 0xA5, 0xA6, 0xA7, 0xA8, 0xA9, 0xAA, 0xAB, 0xAC, 0xAD, 0xAE, 0xAF] : List Byte).map
        (fun b => decodeBytes 0xCB b 0x12) =
      [.res4B, .res4C, .res4D, .res4E, .res4H, .res4L, .res4AtHl, .res4A, .res5B, .res5C, .res5D, .res5E,
       .res5H, .res5L, .res5AtHl, .res5A] := by rfl

theorem test_decode_ext_B0 :
    ([0xB0, 0xB1, 0xB2, 0xB3, 0xB4, 0xB5, 0xB6, 0xB7, 0xB8, 0xB9, 0xBA, 0xBB, 0xBC, 0xBD, 0xBE, 0xBF] : List Byte).map
        (fun b => decodeBytes 0xCB b 0x12) =
      [.res6B, .res6C, .res6D, .res6E, .res6H, .res6L, .res6AtHl, .res6A, .res7B, .res7C, .res7D, .res7E,
       .res7H, .res7L, .res7AtHl, .res7A] := by rfl

theorem test_decode_ext_C0 :
    ([0xC0, 0xC1, 0xC2, 0xC3, 0xC4, 0xC5, 0xC6, 0xC7, 0xC8, 0xC9, 0xCA, 0xCB, 0xCC, 0xCD, 0xCE, 0xCF] : List Byte).map
        (fun b => decodeBytes 0xCB b 0x12) =
      [.set0B, .set0C, .set0D, .set0E, .set0H, .set0L, .set0AtHl, .set0A, .set1B, .set1C, .set1D, .set1E,
       .set1H, .set1L, .set1AtHl, .set1A] := by rfl

theorem test_decode_ext_D0 :
    ([0xD0, 0xD1, 0xD2, 0xD3, 0xD4, 0xD5, 0xD6, 0xD7, 0xD8, 0xD9, 0xDA, 0xDB, 0xDC, 0xDD, 0xDE, 0xDF] : List Byte).map
        (fun b => decodeBytes 0xCB b 0x12) =
      [.set2B, .set2C, .set2D, .set2E, .set2H, .set2L, .set2AtHl, .set2A, .set3B, .set3C, .set3D, .set3E,
       .set3H, .set3L, .set3AtHl, .set3A] := by rfl

theorem test_decode_ext_E0 :
    ([0xE0, 0xE1, 0xE2, 0xE3, 0xE4, 0xE5, 0xE6, 0xE7, 0xE8, 0xE9, 0xEA, 0xEB, 0xEC, 0xED, 0xEE, 0xEF] : List Byte).map
        (fun b => decodeBytes 0xCB b 0x12) =
      [.set4B, .set4C, .set4D, .set4E, .set4H, .set4L, .set4AtHl, .set4A, .set5B, .set5C, .set5D, .set5E,
       .set5H, .set5L, .set5AtHl, .set5A] := by rfl

theorem test_decode_ext_F0 :
    ([0xF0, 0xF1, 0xF2, 0xF3, 0xF4, 0xF5, 0xF6, 0xF7, 0xF8, 0xF9, 0xFA, 0xFB, 0xFC, 0xFD, 0xFE, 0xFF] : List Byte).map
        (fun b => decodeBytes 0xCB b 0x12) =
      [.set6B, .set6C, .set6D, .set6E, .set6H, .set6L, .set6AtHl, .set6A, .set7B, .set7C, .set7D, .set7E,
       .set7H, .set7L, .set7AtHl, .set7A] := by rfl

theorem test_table_word_primary : decodeTableWord 24 0x000031 = some (.ldSpD16 0x0000) := by rfl

theorem test_table_word_extended : decodeTableWord 16 0xCB7E = some .bit7AtHl := by rfl

theorem test_table_word_illegal : decodeTableWord 8 0xD3 = some (.illegal 0xD3) := by rfl

theorem test_descriptor_jr_nz :
    Instr.desc (.jrNzR8 0xFB) = some ⟨"JR NZ,r8", .imm8, 225, 2, 12, some 8⟩ := by rfl

theorem test_decode_truncated : decode [0xCD, 0x00] = .error (.truncated 0xCD) := by rfl

/-! ## Single steps (95_test_vectors.md sections 2.1 to 2.7) -/

/-- R101 `LD A,A`: 7F at 0100, A=5A F=F0 gives A=5A F=F0 PC=0101 clk=4. -/
theorem test_R101_LD_A_A :
    (after { start 0x0100 [0x7F] with regs.a := 0x5A, flags := Flags.ofByte 0xF0 }).map
        (fun t => (t.regs.a, t.flags.toByte, t.pc, t.clk)) =
      some (0x5A, 0xF0, 0x0101, 4) := by rfl

/-- R102 `LD B,d8`: 06 7F at 0100, - gives B=7F PC=0102 clk=8. -/
theorem test_R102_LD_B_d8_1 :
    (after (start 0x0100 [0x06, 0x7F])).map
        (fun t => (t.regs.b, t.pc, t.clk)) =
      some (0x7F, 0x0102, 8) := by rfl

/-- R102 `LD A,d8 (immediate at 0xFFFF)`: 3E at FFFE, - gives A=00 PC=0000. -/
theorem test_R102_LD_A_d8_2 :
    (after (start 0xFFFE [0x3E])).map
        (fun t => (t.regs.a, t.pc)) =
      some (0x00, 0x0000) := by rfl

/-- R103 `LD H,(HL)`: 66 at 0100, HL=C010 mC010=99 gives H=99 L=10 clk=8. -/
theorem test_R103_LD_H_atHL :
    (after (poke { start 0x0100 [0x66] with regs.h := 0xC0, regs.l := 0x10 } 0xC010 0x99)).map
        (fun t => (t.regs.h, t.regs.l, t.clk)) =
      some (0x99, 0x10, 8) := by rfl

/-- R104 `LD (HL),H`: 74 at 0100, HL=C0C1 gives mC0C1=C0 HL=C0C1 clk=8. -/
theorem test_R104_LD :
    (after { start 0x0100 [0x74] with regs.h := 0xC0, regs.l := 0xC1 }).map
        (fun t => (t.readByte 0xC0C1, t.regs.h, t.regs.l, t.clk)) =
      some (0xC0, 0xC0, 0xC1, 8) := by rfl

/-- R105 `LD (HL),d8`: 36 FF at 0100, HL=C123 gives mC123=FF PC=0102 clk=12. -/
theorem test_R105_LD :
    (after { start 0x0100 [0x36, 0xFF] with regs.h := 0xC1, regs.l := 0x23 }).map
        (fun t => (t.readByte 0xC123, t.pc, t.clk)) =
      some (0xFF, 0x0102, 12) := by rfl

/-- R106 `LD A,(BC)`: 0A at 0100, BC=1234 m1234=56 gives A=56 clk=8. -/
theorem test_R106_LD_A_BC :
    (after (poke { start 0x0100 [0x0A] with regs.b := 0x12, regs.c := 0x34 } 0x1234 0x56)).map
        (fun t => (t.regs.a, t.clk)) =
      some (0x56, 8) := by rfl

/-- R107 `LD A,(DE)`: 1A at 0100, DE=8000 m8000=3C gives A=3C clk=8. -/
theorem test_R107_LD_A_DE :
    (after (poke { start 0x0100 [0x1A] with regs.d := 0x80, regs.e := 0x00 } 0x8000 0x3C)).map
        (fun t => (t.regs.a, t.clk)) =
      some (0x3C, 8) := by rfl

/-- R108 `LD (BC),A`: 02 at 0100, BC=C001 A=77 gives mC001=77 clk=8. -/
theorem test_R108_LD :
    (after { start 0x0100 [0x02] with regs.b := 0xC0, regs.c := 0x01, regs.a := 0x77 }).map
        (fun t => (t.readByte 0xC001, t.clk)) =
      some (0x77, 8) := by rfl

/-- R109 `LD (DE),A`: 12 at 0100, DE=FF80 A=01 gives mFF80=01 clk=8. -/
theorem test_R109_LD :
    (after { start 0x0100 [0x12] with regs.d := 0xFF, regs.e := 0x80, regs.a := 0x01 }).map
        (fun t => (t.readByte 0xFF80, t.clk)) =
      some (0x01, 8) := by rfl

/-- R110 `LD A,(a16)`: FA 34 12 at 0100, m1234=AB gives A=AB PC=0103 clk=16. -/
theorem test_R110_LD_A_a16 :
    (after (poke (start 0x0100 [0xFA, 0x34, 0x12]) 0x1234 0xAB)).map
        (fun t => (t.regs.a, t.pc, t.clk)) =
      some (0xAB, 0x0103, 16) := by rfl

/-- R111 `LD (a16),A`: EA FF FF at 0100, A=99 gives mFFFF=99 PC=0103. -/
theorem test_R111_LD :
    (after { start 0x0100 [0xEA, 0xFF, 0xFF] with regs.a := 0x99 }).map
        (fun t => (t.readByte 0xFFFF, t.pc)) =
      some (0x99, 0x0103) := by rfl

/-- R112 `LDH A,(a8)`: F0 80 at 0100, mFF80=11 gives A=11 PC=0102 clk=12. -/
theorem test_R112_LDH_A_a8 :
    (after (poke (start 0x0100 [0xF0, 0x80]) 0xFF80 0x11)).map
        (fun t => (t.regs.a, t.pc, t.clk)) =
      some (0x11, 0x0102, 12) := by rfl

/-- R113 `LDH (a8),A`: E0 FF at 0100, A=3C gives mFFFF=3C PC=0102 clk=12. -/
theorem test_R113_LDH :
    (after { start 0x0100 [0xE0, 0xFF] with regs.a := 0x3C }).map
        (fun t => (t.readByte 0xFFFF, t.pc, t.clk)) =
      some (0x3C, 0x0102, 12) := by rfl

/-- R114 `LD A,(C)`: F2 at 0100, C=81 mFF81=7E gives A=7E PC=0101 clk=8. -/
theorem test_R114_LD_A_C :
    (after (poke { start 0x0100 [0xF2] with regs.c := 0x81 } 0xFF81 0x7E)).map
        (fun t => (t.regs.a, t.pc, t.clk)) =
      some (0x7E, 0x0101, 8) := by rfl

/-- R115 `LD (C),A`: E2 at 0100, C=FF A=1F gives mFFFF=1F PC=0101 clk=8. -/
theorem test_R115_LD :
    (after { start 0x0100 [0xE2] with regs.c := 0xFF, regs.a := 0x1F }).map
        (fun t => (t.readByte 0xFFFF, t.pc, t.clk)) =
      some (0x1F, 0x0101, 8) := by rfl

/-- R116 `LD (HL+),A`: 22 at 0100, HL=C0FF A=01 gives mC0FF=01 H=C1 L=00 clk=8. -/
theorem test_R116_LD :
    (after { start 0x0100 [0x22] with regs.h := 0xC0, regs.l := 0xFF, regs.a := 0x01 }).map
        (fun t => (t.readByte 0xC0FF, t.regs.h, t.regs.l, t.clk)) =
      some (0x01, 0xC1, 0x00, 8) := by rfl

/-- R117 `LD A,(HL+)`: 2A at 0100, HL=FFFF mFFFF=08 gives A=08 H=00 L=00 clk=8. -/
theorem test_R117_LD_A_HLI :
    (after (poke { start 0x0100 [0x2A] with regs.h := 0xFF, regs.l := 0xFF } 0xFFFF 0x08)).map
        (fun t => (t.regs.a, t.regs.h, t.regs.l, t.clk)) =
      some (0x08, 0x00, 0x00, 8) := by rfl

/-- R118 `LD (HL-),A`: 32 at 0100, HL=9FFF A=00 gives m9FFF=00 H=9F L=FE clk=8. -/
theorem test_R118_LD :
    (after { start 0x0100 [0x32] with regs.h := 0x9F, regs.l := 0xFF, regs.a := 0x00 }).map
        (fun t => (t.readByte 0x9FFF, t.regs.h, t.regs.l, t.clk)) =
      some (0x00, 0x9F, 0xFE, 8) := by rfl

/-- R119 `LD A,(HL-)`: 3A at 0100, HL=0000 m0000=31 gives A=31 H=FF L=FF clk=8. -/
theorem test_R119_LD_A_HLD :
    (after (poke { start 0x0100 [0x3A] with regs.h := 0x00, regs.l := 0x00 } 0x0000 0x31)).map
        (fun t => (t.regs.a, t.regs.h, t.regs.l, t.clk)) =
      some (0x31, 0xFF, 0xFF, 8) := by rfl

/-- R132 `LD HL,d16`: 21 34 12 at 0100, - gives H=12 L=34 PC=0103 clk=12. -/
theorem test_R132_LD_HL_d16 :
    (after (start 0x0100 [0x21, 0x34, 0x12])).map
        (fun t => (t.regs.h, t.regs.l, t.pc, t.clk)) =
      some (0x12, 0x34, 0x0103, 12) := by rfl

/-- R133 `LD (a16),SP`: 08 00 C1 at 0100, SP=FFF8 gives mC100=F8 mC101=FF PC=0103 clk=20. -/
theorem test_R133_LD_1 :
    (after { start 0x0100 [0x08, 0x00, 0xC1] with sp := 0xFFF8 }).map
        (fun t => (t.readByte 0xC100, t.readByte 0xC101, t.pc, t.clk)) =
      some (0xF8, 0xFF, 0x0103, 20) := by rfl

/-- R133 `LD (a16),SP`: 08 FF FF at 0100, SP=1234 gives mFFFF=34 m0000=12 clk=20. -/
theorem test_R133_LD_2 :
    (after { start 0x0100 [0x08, 0xFF, 0xFF] with sp := 0x1234 }).map
        (fun t => (t.readByte 0xFFFF, t.readByte 0x0000, t.clk)) =
      some (0x34, 0x12, 20) := by rfl

/-- R134 `LD SP,HL`: F9 at 0100, HL=DFF0 gives SP=DFF0 clk=8. -/
theorem test_R134_LD_SP_HL :
    (after { start 0x0100 [0xF9] with regs.h := 0xDF, regs.l := 0xF0 }).map
        (fun t => (t.sp, t.clk)) =
      some (0xDFF0, 8) := by rfl

/-- R135 `LD HL,SP+r8`: F8 08 at 0100, SP=FFF8 gives HL=0000 F=30 clk=12. -/
theorem test_R135_LD_HL_SP_r8 :
    (after { start 0x0100 [0xF8, 0x08] with sp := 0xFFF8 }).map
        (fun t => (t.regs.h, t.regs.l, t.flags.toByte, t.clk)) =
      some (0x00, 0x00, 0x30, 12) := by rfl

/-- R136 `PUSH HL`: E5 at 0100, SP=0001 HL=ABCD gives SP=FFFF m0000=AB mFFFF=CD clk=16. -/
theorem test_R136_PUSH_HL :
    (after { start 0x0100 [0xE5] with sp := 0x0001, regs.h := 0xAB, regs.l := 0xCD }).map
        (fun t => (t.sp, t.readByte 0x0000, t.readByte 0xFFFF, t.clk)) =
      some (0xFFFF, 0xAB, 0xCD, 16) := by rfl

/-- R137 `PUSH AF`: F5 at 0100, SP=D000 A=9C F=B0 gives SP=CFFE mCFFF=9C mCFFE=B0 clk=16. -/
theorem test_R137_PUSH_AF :
    (after { start 0x0100 [0xF5] with sp := 0xD000, regs.a := 0x9C, flags := Flags.ofByte 0xB0 }).map
        (fun t => (t.sp, t.readByte 0xCFFF, t.readByte 0xCFFE, t.clk)) =
      some (0xCFFE, 0x9C, 0xB0, 16) := by rfl

/-- R138 `POP DE`: D1 at 0100, SP=FFFC mFFFC=34 mFFFD=12 gives D=12 E=34 SP=FFFE clk=12. -/
theorem test_R138_POP_DE_1 :
    (after (poke (poke { start 0x0100 [0xD1] with sp := 0xFFFC } 0xFFFC 0x34) 0xFFFD 0x12)).map
        (fun t => (t.regs.d, t.regs.e, t.sp, t.clk)) =
      some (0x12, 0x34, 0xFFFE, 12) := by rfl

/-- R138 `POP HL`: E1 at 0100, SP=FFFF mFFFF=CD m0000=AB gives HL=ABCD SP=0001. -/
theorem test_R138_POP_HL_2 :
    (after (poke (poke { start 0x0100 [0xE1] with sp := 0xFFFF } 0xFFFF 0xCD) 0x0000 0xAB)).map
        (fun t => (t.regs.h, t.regs.l, t.sp)) =
      some (0xAB, 0xCD, 0x0001) := by rfl

/-- R139 `POP AF`: F1 at 0100, SP=FFFC mFFFC=FF mFFFD=12 gives A=12 F=F0 SP=FFFE clk=12. -/
theorem test_R139_POP_AF_1 :
    (after (poke (poke { start 0x0100 [0xF1] with sp := 0xFFFC } 0xFFFC 0xFF) 0xFFFD 0x12)).map
        (fun t => (t.regs.a, t.flags.toByte, t.sp, t.clk)) =
      some (0x12, 0xF0, 0xFFFE, 12) := by rfl

/-- R139 `POP AF`: F1 at 0100, SP=C000 mC000=0F mC001=00 gives A=00 F=00 SP=C002. -/
theorem test_R139_POP_AF_2 :
    (after (poke (poke { start 0x0100 [0xF1] with sp := 0xC000 } 0xC000 0x0F) 0xC001 0x00)).map
        (fun t => (t.regs.a, t.flags.toByte, t.sp)) =
      some (0x00, 0x00, 0xC002) := by rfl

/-- R150 `ADD A,B`: 80 at 0100, A=3A B=C6 gives A=00 F=B0 clk=4. -/
theorem test_R150_ADD_A_B :
    (after { start 0x0100 [0x80] with regs.a := 0x3A, regs.b := 0xC6 }).map
        (fun t => (t.regs.a, t.flags.toByte, t.clk)) =
      some (0x00, 0xB0, 4) := by rfl

/-- R151 `ADD A,(HL)`: 86 at 0100, A=0F HL=C000 mC000=01 gives A=10 F=20 clk=8. -/
theorem test_R151_ADD_A_atHL :
    (after (poke { start 0x0100 [0x86] with regs.a := 0x0F, regs.h := 0xC0, regs.l := 0x00 } 0xC000 0x01)).map
        (fun t => (t.regs.a, t.flags.toByte, t.clk)) =
      some (0x10, 0x20, 8) := by rfl

/-- R152 `ADD A,d8`: C6 80 at 0100, A=80 gives A=00 F=90 PC=0102 clk=8. -/
theorem test_R152_ADD_A_d8 :
    (after { start 0x0100 [0xC6, 0x80] with regs.a := 0x80 }).map
        (fun t => (t.regs.a, t.flags.toByte, t.pc, t.clk)) =
      some (0x00, 0x90, 0x0102, 8) := by rfl

/-- R153 `ADC A,E`: 8B at 0100, A=E1 E=0F F=10 gives A=F1 F=20 clk=4. -/
theorem test_R153_ADC_A_E :
    (after { start 0x0100 [0x8B] with regs.a := 0xE1, regs.e := 0x0F, flags := Flags.ofByte 0x10 }).map
        (fun t => (t.regs.a, t.flags.toByte, t.clk)) =
      some (0xF1, 0x20, 4) := by rfl

/-- R154 `ADC A,(HL)`: 8E at 0100, A=FF HL=C000 mC000=00 F=10 gives A=00 F=B0 clk=8. -/
theorem test_R154_ADC_A_atHL :
    (after (poke { start 0x0100 [0x8E] with regs.a := 0xFF, regs.h := 0xC0, regs.l := 0x00, flags := Flags.ofByte 0x10 } 0xC000 0x00)).map
        (fun t => (t.regs.a, t.flags.toByte, t.clk)) =
      some (0x00, 0xB0, 8) := by rfl

/-- R155 `ADC A,d8`: CE 0F at 0100, A=10 F=10 gives A=20 F=20 PC=0102 clk=8. -/
theorem test_R155_ADC_A_d8 :
    (after { start 0x0100 [0xCE, 0x0F] with regs.a := 0x10, flags := Flags.ofByte 0x10 }).map
        (fun t => (t.regs.a, t.flags.toByte, t.pc, t.clk)) =
      some (0x20, 0x20, 0x0102, 8) := by rfl

/-- R156 `SUB E`: 93 at 0100, A=3E E=3E gives A=00 F=C0 clk=4. -/
theorem test_R156_SUB_E :
    (after { start 0x0100 [0x93] with regs.a := 0x3E, regs.e := 0x3E }).map
        (fun t => (t.regs.a, t.flags.toByte, t.clk)) =
      some (0x00, 0xC0, 4) := by rfl

/-- R157 `SUB (HL)`: 96 at 0100, A=3E HL=C000 mC000=40 gives A=FE F=50 clk=8. -/
theorem test_R157_SUB :
    (after (poke { start 0x0100 [0x96] with regs.a := 0x3E, regs.h := 0xC0, regs.l := 0x00 } 0xC000 0x40)).map
        (fun t => (t.regs.a, t.flags.toByte, t.clk)) =
      some (0xFE, 0x50, 8) := by rfl

/-- R158 `SUB d8`: D6 0F at 0100, A=3E gives A=2F F=60 PC=0102 clk=8. -/
theorem test_R158_SUB_d8 :
    (after { start 0x0100 [0xD6, 0x0F] with regs.a := 0x3E }).map
        (fun t => (t.regs.a, t.flags.toByte, t.pc, t.clk)) =
      some (0x2F, 0x60, 0x0102, 8) := by rfl

/-- R159 `SBC A,H`: 9C at 0100, A=3B H=2A F=10 gives A=10 F=40 clk=4. -/
theorem test_R159_SBC_A_H :
    (after { start 0x0100 [0x9C] with regs.a := 0x3B, regs.h := 0x2A, flags := Flags.ofByte 0x10 }).map
        (fun t => (t.regs.a, t.flags.toByte, t.clk)) =
      some (0x10, 0x40, 4) := by rfl

/-- R160 `SBC A,(HL)`: 9E at 0100, A=3B HL=C000 mC000=4F F=10 gives A=EB F=70 clk=8. -/
theorem test_R160_SBC_A_atHL :
    (after (poke { start 0x0100 [0x9E] with regs.a := 0x3B, regs.h := 0xC0, regs.l := 0x00, flags := Flags.ofByte 0x10 } 0xC000 0x4F)).map
        (fun t => (t.regs.a, t.flags.toByte, t.clk)) =
      some (0xEB, 0x70, 8) := by rfl

/-- R161 `SBC A,d8`: DE FF at 0100, A=00 F=10 gives A=00 F=F0 PC=0102 clk=8. -/
theorem test_R161_SBC_A_d8 :
    (after { start 0x0100 [0xDE, 0xFF] with regs.a := 0x00, flags := Flags.ofByte 0x10 }).map
        (fun t => (t.regs.a, t.flags.toByte, t.pc, t.clk)) =
      some (0x00, 0xF0, 0x0102, 8) := by rfl

/-- R162 `AND L`: A5 at 0100, A=5A L=3F gives A=1A F=20 clk=4. -/
theorem test_R162_AND_L :
    (after { start 0x0100 [0xA5] with regs.a := 0x5A, regs.l := 0x3F }).map
        (fun t => (t.regs.a, t.flags.toByte, t.clk)) =
      some (0x1A, 0x20, 4) := by rfl

/-- R163 `AND (HL)`: A6 at 0100, A=5A HL=C000 mC000=00 gives A=00 F=A0 clk=8. -/
theorem test_R163_AND :
    (after (poke { start 0x0100 [0xA6] with regs.a := 0x5A, regs.h := 0xC0, regs.l := 0x00 } 0xC000 0x00)).map
        (fun t => (t.regs.a, t.flags.toByte, t.clk)) =
      some (0x00, 0xA0, 8) := by rfl

/-- R164 `AND d8`: E6 38 at 0100, A=5A gives A=18 F=20 PC=0102 clk=8. -/
theorem test_R164_AND_d8 :
    (after { start 0x0100 [0xE6, 0x38] with regs.a := 0x5A }).map
        (fun t => (t.regs.a, t.flags.toByte, t.pc, t.clk)) =
      some (0x18, 0x20, 0x0102, 8) := by rfl

/-- R165 `XOR A`: AF at 0100, A=FF gives A=00 F=80 clk=4. -/
theorem test_R165_XOR_A :
    (after { start 0x0100 [0xAF] with regs.a := 0xFF }).map
        (fun t => (t.regs.a, t.flags.toByte, t.clk)) =
      some (0x00, 0x80, 4) := by rfl

/-- R166 `XOR (HL)`: AE at 0100, A=FF HL=C000 mC000=8A gives A=75 F=00 clk=8. -/
theorem test_R166_XOR :
    (after (poke { start 0x0100 [0xAE] with regs.a := 0xFF, regs.h := 0xC0, regs.l := 0x00 } 0xC000 0x8A)).map
        (fun t => (t.regs.a, t.flags.toByte, t.clk)) =
      some (0x75, 0x00, 8) := by rfl

/-- R167 `XOR d8`: EE 0F at 0100, A=FF gives A=F0 F=00 PC=0102 clk=8. -/
theorem test_R167_XOR_d8 :
    (after { start 0x0100 [0xEE, 0x0F] with regs.a := 0xFF }).map
        (fun t => (t.regs.a, t.flags.toByte, t.pc, t.clk)) =
      some (0xF0, 0x00, 0x0102, 8) := by rfl

/-- R168 `OR B`: B0 at 0100, A=5A B=0F gives A=5F F=00 clk=4. -/
theorem test_R168_OR_B :
    (after { start 0x0100 [0xB0] with regs.a := 0x5A, regs.b := 0x0F }).map
        (fun t => (t.regs.a, t.flags.toByte, t.clk)) =
      some (0x5F, 0x00, 4) := by rfl

/-- R169 `OR (HL)`: B6 at 0100, A=00 HL=C000 mC000=00 gives A=00 F=80 clk=8. -/
theorem test_R169_OR :
    (after (poke { start 0x0100 [0xB6] with regs.a := 0x00, regs.h := 0xC0, regs.l := 0x00 } 0xC000 0x00)).map
        (fun t => (t.regs.a, t.flags.toByte, t.clk)) =
      some (0x00, 0x80, 8) := by rfl

/-- R170 `OR d8`: F6 03 at 0100, A=5A gives A=5B F=00 PC=0102 clk=8. -/
theorem test_R170_OR_d8 :
    (after { start 0x0100 [0xF6, 0x03] with regs.a := 0x5A }).map
        (fun t => (t.regs.a, t.flags.toByte, t.pc, t.clk)) =
      some (0x5B, 0x00, 0x0102, 8) := by rfl

/-- R171 `CP B`: B8 at 0100, A=3C B=2F gives A=3C F=60 clk=4. -/
theorem test_R171_CP_B :
    (after { start 0x0100 [0xB8] with regs.a := 0x3C, regs.b := 0x2F }).map
        (fun t => (t.regs.a, t.flags.toByte, t.clk)) =
      some (0x3C, 0x60, 4) := by rfl

/-- R172 `CP (HL)`: BE at 0100, A=3C HL=C000 mC000=40 gives A=3C F=50 clk=8. -/
theorem test_R172_CP :
    (after (poke { start 0x0100 [0xBE] with regs.a := 0x3C, regs.h := 0xC0, regs.l := 0x00 } 0xC000 0x40)).map
        (fun t => (t.regs.a, t.flags.toByte, t.clk)) =
      some (0x3C, 0x50, 8) := by rfl

/-- R173 `CP d8`: FE 3C at 0100, A=3C gives A=3C F=C0 PC=0102 clk=8. -/
theorem test_R173_CP_d8 :
    (after { start 0x0100 [0xFE, 0x3C] with regs.a := 0x3C }).map
        (fun t => (t.regs.a, t.flags.toByte, t.pc, t.clk)) =
      some (0x3C, 0xC0, 0x0102, 8) := by rfl

/-- R174 `INC C`: 0C at 0100, C=0F gives C=10 F=20 clk=4. -/
theorem test_R174_INC_C :
    (after { start 0x0100 [0x0C] with regs.c := 0x0F }).map
        (fun t => (t.regs.c, t.flags.toByte, t.clk)) =
      some (0x10, 0x20, 4) := by rfl

/-- R175 `INC (HL)`: 34 at 0100, HL=C000 mC000=FF F=10 gives mC000=00 F=B0 clk=12. -/
theorem test_R175_INC :
    (after (poke { start 0x0100 [0x34] with regs.h := 0xC0, regs.l := 0x00, flags := Flags.ofByte 0x10 } 0xC000 0xFF)).map
        (fun t => (t.readByte 0xC000, t.flags.toByte, t.clk)) =
      some (0x00, 0xB0, 12) := by rfl

/-- R176 `DEC B`: 05 at 0100, B=01 gives B=00 F=C0 clk=4. -/
theorem test_R176_DEC_B :
    (after { start 0x0100 [0x05] with regs.b := 0x01 }).map
        (fun t => (t.regs.b, t.flags.toByte, t.clk)) =
      some (0x00, 0xC0, 4) := by rfl

/-- R177 `DEC (HL)`: 35 at 0100, HL=C000 mC000=00 F=00 gives mC000=FF F=60 clk=12. -/
theorem test_R177_DEC :
    (after (poke { start 0x0100 [0x35] with regs.h := 0xC0, regs.l := 0x00, flags := Flags.ofByte 0x00 } 0xC000 0x00)).map
        (fun t => (t.readByte 0xC000, t.flags.toByte, t.clk)) =
      some (0xFF, 0x60, 12) := by rfl

/-- R178 `DAA`: 27 at 0100, A=7D F=00 gives A=83 F=00 clk=4. -/
theorem test_R178_DAA_1 :
    (after { start 0x0100 [0x27] with regs.a := 0x7D, flags := Flags.ofByte 0x00 }).map
        (fun t => (t.regs.a, t.flags.toByte, t.clk)) =
      some (0x83, 0x00, 4) := by rfl

/-- R178 `DAA (A=A0 after add)`: 27 at 0100, A=A0 F=00 gives A=00 F=90. -/
theorem test_R178_DAA_2 :
    (after { start 0x0100 [0x27] with regs.a := 0xA0, flags := Flags.ofByte 0x00 }).map
        (fun t => (t.regs.a, t.flags.toByte)) =
      some (0x00, 0x90) := by rfl

/-- R179 `CPL`: 2F at 0100, A=35 F=00 gives A=CA F=60 clk=4. -/
theorem test_R179_CPL :
    (after { start 0x0100 [0x2F] with regs.a := 0x35, flags := Flags.ofByte 0x00 }).map
        (fun t => (t.regs.a, t.flags.toByte, t.clk)) =
      some (0xCA, 0x60, 4) := by rfl

/-- R180 `SCF`: 37 at 0100, F=E0 gives F=90 clk=4. -/
theorem test_R180_SCF :
    (after { start 0x0100 [0x37] with flags := Flags.ofByte 0xE0 }).map
        (fun t => (t.flags.toByte, t.clk)) =
      some (0x90, 4) := by rfl

/-- R181 `CCF`: 3F at 0100, F=70 gives F=00. -/
theorem test_R181_CCF :
    (after { start 0x0100 [0x3F] with flags := Flags.ofByte 0x70 }).map
        (fun t => t.flags.toByte) =
      some 0x00 := by rfl

/-- R185 `ADD HL,BC`: 09 at 0100, HL=8A23 BC=0605 F=80 gives HL=9028 F=A0 clk=8. -/
theorem test_R185_ADD_HL_BC :
    (after { start 0x0100 [0x09] with regs.h := 0x8A, regs.l := 0x23, regs.b := 0x06, regs.c := 0x05, flags := Flags.ofByte 0x80 }).map
        (fun t => (t.regs.h, t.regs.l, t.flags.toByte, t.clk)) =
      some (0x90, 0x28, 0xA0, 8) := by rfl

/-- R186 `INC BC`: 03 at 0100, BC=00FF F=F0 gives B=01 C=00 F=F0 clk=8. -/
theorem test_R186_INC_BC :
    (after { start 0x0100 [0x03] with regs.b := 0x00, regs.c := 0xFF, flags := Flags.ofByte 0xF0 }).map
        (fun t => (t.regs.b, t.regs.c, t.flags.toByte, t.clk)) =
      some (0x01, 0x00, 0xF0, 8) := by rfl

/-- R187 `DEC DE`: 1B at 0100, DE=0000 F=00 gives D=FF E=FF F=00 clk=8. -/
theorem test_R187_DEC_DE :
    (after { start 0x0100 [0x1B] with regs.d := 0x00, regs.e := 0x00, flags := Flags.ofByte 0x00 }).map
        (fun t => (t.regs.d, t.regs.e, t.flags.toByte, t.clk)) =
      some (0xFF, 0xFF, 0x00, 8) := by rfl

/-- R188 `ADD SP,r8`: E8 02 at 0100, SP=FFF8 F=F0 gives SP=FFFA F=00 PC=0102 clk=16. -/
theorem test_R188_ADD_SP_r8 :
    (after { start 0x0100 [0xE8, 0x02] with sp := 0xFFF8, flags := Flags.ofByte 0xF0 }).map
        (fun t => (t.sp, t.flags.toByte, t.pc, t.clk)) =
      some (0xFFFA, 0x00, 0x0102, 16) := by rfl

/-- R190 `RLCA`: 07 at 0100, A=85 gives A=0B F=10 clk=4. -/
theorem test_R190_RLCA :
    (after { start 0x0100 [0x07] with regs.a := 0x85 }).map
        (fun t => (t.regs.a, t.flags.toByte, t.clk)) =
      some (0x0B, 0x10, 4) := by rfl

/-- R191 `RRCA`: 0F at 0100, A=3B gives A=9D F=10. -/
theorem test_R191_RRCA :
    (after { start 0x0100 [0x0F] with regs.a := 0x3B }).map
        (fun t => (t.regs.a, t.flags.toByte)) =
      some (0x9D, 0x10) := by rfl

/-- R192 `RLA`: 17 at 0100, A=95 F=10 gives A=2B F=10. -/
theorem test_R192_RLA :
    (after { start 0x0100 [0x17] with regs.a := 0x95, flags := Flags.ofByte 0x10 }).map
        (fun t => (t.regs.a, t.flags.toByte)) =
      some (0x2B, 0x10) := by rfl

/-- R193 `RRA`: 1F at 0100, A=81 F=00 gives A=40 F=10. -/
theorem test_R193_RRA :
    (after { start 0x0100 [0x1F] with regs.a := 0x81, flags := Flags.ofByte 0x00 }).map
        (fun t => (t.regs.a, t.flags.toByte)) =
      some (0x40, 0x10) := by rfl

/-- R194 `RLC B`: CB 00 at 0100, B=85 gives B=0B F=10 PC=0102 clk=8. -/
theorem test_R194_RLC_B :
    (after { start 0x0100 [0xCB, 0x00] with regs.b := 0x85 }).map
        (fun t => (t.regs.b, t.flags.toByte, t.pc, t.clk)) =
      some (0x0B, 0x10, 0x0102, 8) := by rfl

/-- R195 `RLC (HL)`: CB 06 at 0100, HL=C000 mC000=00 gives mC000=00 F=80 clk=16. -/
theorem test_R195_RLC :
    (after (poke { start 0x0100 [0xCB, 0x06] with regs.h := 0xC0, regs.l := 0x00 } 0xC000 0x00)).map
        (fun t => (t.readByte 0xC000, t.flags.toByte, t.clk)) =
      some (0x00, 0x80, 16) := by rfl

/-- R196 `RRC C`: CB 09 at 0100, C=01 gives C=80 F=10 clk=8. -/
theorem test_R196_RRC_C :
    (after { start 0x0100 [0xCB, 0x09] with regs.c := 0x01 }).map
        (fun t => (t.regs.c, t.flags.toByte, t.clk)) =
      some (0x80, 0x10, 8) := by rfl

/-- R197 `RRC (HL)`: CB 0E at 0100, HL=C000 mC000=00 gives mC000=00 F=80 clk=16. -/
theorem test_R197_RRC :
    (after (poke { start 0x0100 [0xCB, 0x0E] with regs.h := 0xC0, regs.l := 0x00 } 0xC000 0x00)).map
        (fun t => (t.readByte 0xC000, t.flags.toByte, t.clk)) =
      some (0x00, 0x80, 16) := by rfl

/-- R198 `RL L`: CB 15 at 0100, L=80 F=00 gives L=00 F=90 clk=8. -/
theorem test_R198_RL_L :
    (after { start 0x0100 [0xCB, 0x15] with regs.l := 0x80, flags := Flags.ofByte 0x00 }).map
        (fun t => (t.regs.l, t.flags.toByte, t.clk)) =
      some (0x00, 0x90, 8) := by rfl

/-- R199 `RL (HL)`: CB 16 at 0100, HL=C000 mC000=11 F=00 gives mC000=22 F=00 clk=16. -/
theorem test_R199_RL :
    (after (poke { start 0x0100 [0xCB, 0x16] with regs.h := 0xC0, regs.l := 0x00, flags := Flags.ofByte 0x00 } 0xC000 0x11)).map
        (fun t => (t.readByte 0xC000, t.flags.toByte, t.clk)) =
      some (0x22, 0x00, 16) := by rfl

/-- R200 `RR A`: CB 1F at 0100, A=01 F=00 gives A=00 F=90 clk=8. -/
theorem test_R200_RR_A :
    (after { start 0x0100 [0xCB, 0x1F] with regs.a := 0x01, flags := Flags.ofByte 0x00 }).map
        (fun t => (t.regs.a, t.flags.toByte, t.clk)) =
      some (0x00, 0x90, 8) := by rfl

/-- R201 `RR (HL)`: CB 1E at 0100, HL=C000 mC000=8A F=00 gives mC000=45 F=00 clk=16. -/
theorem test_R201_RR :
    (after (poke { start 0x0100 [0xCB, 0x1E] with regs.h := 0xC0, regs.l := 0x00, flags := Flags.ofByte 0x00 } 0xC000 0x8A)).map
        (fun t => (t.readByte 0xC000, t.flags.toByte, t.clk)) =
      some (0x45, 0x00, 16) := by rfl

/-- R202 `SLA D`: CB 22 at 0100, D=80 gives D=00 F=90 clk=8. -/
theorem test_R202_SLA_D :
    (after { start 0x0100 [0xCB, 0x22] with regs.d := 0x80 }).map
        (fun t => (t.regs.d, t.flags.toByte, t.clk)) =
      some (0x00, 0x90, 8) := by rfl

/-- R203 `SLA (HL)`: CB 26 at 0100, HL=C000 mC000=FF gives mC000=FE F=10 clk=16. -/
theorem test_R203_SLA :
    (after (poke { start 0x0100 [0xCB, 0x26] with regs.h := 0xC0, regs.l := 0x00 } 0xC000 0xFF)).map
        (fun t => (t.readByte 0xC000, t.flags.toByte, t.clk)) =
      some (0xFE, 0x10, 16) := by rfl

/-- R204 `SRA A`: CB 2F at 0100, A=8A gives A=C5 F=00 clk=8. -/
theorem test_R204_SRA_A :
    (after { start 0x0100 [0xCB, 0x2F] with regs.a := 0x8A }).map
        (fun t => (t.regs.a, t.flags.toByte, t.clk)) =
      some (0xC5, 0x00, 8) := by rfl

/-- R205 `SRA (HL)`: CB 2E at 0100, HL=C000 mC000=01 gives mC000=00 F=90 clk=16. -/
theorem test_R205_SRA :
    (after (poke { start 0x0100 [0xCB, 0x2E] with regs.h := 0xC0, regs.l := 0x00 } 0xC000 0x01)).map
        (fun t => (t.readByte 0xC000, t.flags.toByte, t.clk)) =
      some (0x00, 0x90, 16) := by rfl

/-- R206 `SWAP A`: CB 37 at 0100, A=00 F=10 gives A=00 F=80 clk=8. -/
theorem test_R206_SWAP_A :
    (after { start 0x0100 [0xCB, 0x37] with regs.a := 0x00, flags := Flags.ofByte 0x10 }).map
        (fun t => (t.regs.a, t.flags.toByte, t.clk)) =
      some (0x00, 0x80, 8) := by rfl

/-- R207 `SWAP (HL)`: CB 36 at 0100, HL=C000 mC000=F0 gives mC000=0F F=00 clk=16. -/
theorem test_R207_SWAP :
    (after (poke { start 0x0100 [0xCB, 0x36] with regs.h := 0xC0, regs.l := 0x00 } 0xC000 0xF0)).map
        (fun t => (t.readByte 0xC000, t.flags.toByte, t.clk)) =
      some (0x0F, 0x00, 16) := by rfl

/-- R208 `SRL A`: CB 3F at 0100, A=01 gives A=00 F=90 clk=8. -/
theorem test_R208_SRL_A :
    (after { start 0x0100 [0xCB, 0x3F] with regs.a := 0x01 }).map
        (fun t => (t.regs.a, t.flags.toByte, t.clk)) =
      some (0x00, 0x90, 8) := by rfl

/-- R209 `SRL (HL)`: CB 3E at 0100, HL=C000 mC000=FF gives mC000=7F F=10 clk=16. -/
theorem test_R209_SRL :
    (after (poke { start 0x0100 [0xCB, 0x3E] with regs.h := 0xC0, regs.l := 0x00 } 0xC000 0xFF)).map
        (fun t => (t.readByte 0xC000, t.flags.toByte, t.clk)) =
      some (0x7F, 0x10, 16) := by rfl

/-- R210 `BIT 7,A`: CB 7F at 0100, A=80 F=00 gives F=20 clk=8. -/
theorem test_R210_BIT_7_A :
    (after { start 0x0100 [0xCB, 0x7F] with regs.a := 0x80, flags := Flags.ofByte 0x00 }).map
        (fun t => (t.flags.toByte, t.clk)) =
      some (0x20, 8) := by rfl

/-- R211 `BIT 7,(HL)`: CB 7E at 0100, HL=C000 mC000=80 F=00 gives mC000=80 F=20 clk=12. -/
theorem test_R211_BIT_7_atHL :
    (after (poke { start 0x0100 [0xCB, 0x7E] with regs.h := 0xC0, regs.l := 0x00, flags := Flags.ofByte 0x00 } 0xC000 0x80)).map
        (fun t => (t.readByte 0xC000, t.flags.toByte, t.clk)) =
      some (0x80, 0x20, 12) := by rfl

/-- R212 `RES 7,A`: CB BF at 0100, A=FF F=50 gives A=7F F=50 clk=8. -/
theorem test_R212_RES_7_A :
    (after { start 0x0100 [0xCB, 0xBF] with regs.a := 0xFF, flags := Flags.ofByte 0x50 }).map
        (fun t => (t.regs.a, t.flags.toByte, t.clk)) =
      some (0x7F, 0x50, 8) := by rfl

/-- R213 `RES 0,(HL)`: CB 86 at 0100, HL=C000 mC000=FF gives mC000=FE clk=16. -/
theorem test_R213_RES_0_atHL :
    (after (poke { start 0x0100 [0xCB, 0x86] with regs.h := 0xC0, regs.l := 0x00 } 0xC000 0xFF)).map
        (fun t => (t.readByte 0xC000, t.clk)) =
      some (0xFE, 16) := by rfl

/-- R214 `SET 3,B`: CB D8 at 0100, B=00 F=A0 gives B=08 F=A0 clk=8. -/
theorem test_R214_SET_3_B :
    (after { start 0x0100 [0xCB, 0xD8] with regs.b := 0x00, flags := Flags.ofByte 0xA0 }).map
        (fun t => (t.regs.b, t.flags.toByte, t.clk)) =
      some (0x08, 0xA0, 8) := by rfl

/-- R215 `SET 7,(HL)`: CB FE at 0100, HL=C000 mC000=00 gives mC000=80 clk=16. -/
theorem test_R215_SET_7_atHL :
    (after (poke { start 0x0100 [0xCB, 0xFE] with regs.h := 0xC0, regs.l := 0x00 } 0xC000 0x00)).map
        (fun t => (t.readByte 0xC000, t.clk)) =
      some (0x80, 16) := by rfl

/-- R221 `JP a16`: C3 50 01 at 0100, - gives PC=0150 clk=16. -/
theorem test_R221_JP_a16 :
    (after (start 0x0100 [0xC3, 0x50, 0x01])).map
        (fun t => (t.pc, t.clk)) =
      some (0x0150, 16) := by rfl

/-- R222 `JP Z,a16`: CA 00 02 at 0100, F=80 gives PC=0200 clk=16. -/
theorem test_R222_JP_Z_a16_1 :
    (after { start 0x0100 [0xCA, 0x00, 0x02] with flags := Flags.ofByte 0x80 }).map
        (fun t => (t.pc, t.clk)) =
      some (0x0200, 16) := by rfl

/-- R222 `JP C,a16`: DA 00 02 at 0100, F=E0 gives PC=0103 clk=12. -/
theorem test_R222_JP_C_a16_2 :
    (after { start 0x0100 [0xDA, 0x00, 0x02] with flags := Flags.ofByte 0xE0 }).map
        (fun t => (t.pc, t.clk)) =
      some (0x0103, 12) := by rfl

/-- R223 `JP (HL)`: E9 at 0100, HL=C000 gives PC=C000 clk=4. -/
theorem test_R223_JP :
    (after { start 0x0100 [0xE9] with regs.h := 0xC0, regs.l := 0x00 }).map
        (fun t => (t.pc, t.clk)) =
      some (0xC000, 4) := by rfl

/-- R224 `JR r8`: 18 FE at 0100, - gives PC=0100 clk=12. -/
theorem test_R224_JR_r8_1 :
    (after (start 0x0100 [0x18, 0xFE])).map
        (fun t => (t.pc, t.clk)) =
      some (0x0100, 12) := by rfl

/-- R224 `JR r8`: 18 FF at 0100, - gives PC=0101. -/
theorem test_R224_JR_r8_2 :
    (after (start 0x0100 [0x18, 0xFF])).map
        (fun t => t.pc) =
      some 0x0101 := by rfl

/-- R225 `JR NZ,r8`: 20 FB at 0105, F=00 gives PC=0102 clk=12. -/
theorem test_R225_JR_NZ_r8_1 :
    (after { start 0x0105 [0x20, 0xFB] with flags := Flags.ofByte 0x00 }).map
        (fun t => (t.pc, t.clk)) =
      some (0x0102, 12) := by rfl

/-- R225 `JR C,r8`: 38 FE at 0100, F=10 gives PC=0100 clk=12. -/
theorem test_R225_JR_C_r8_2 :
    (after { start 0x0100 [0x38, 0xFE] with flags := Flags.ofByte 0x10 }).map
        (fun t => (t.pc, t.clk)) =
      some (0x0100, 12) := by rfl

/-- R226 `CALL a16`: CD 34 12 at 0100, SP=0001 gives PC=1234 SP=FFFF m0000=01 mFFFF=03. -/
theorem test_R226_CALL_a16 :
    (after { start 0x0100 [0xCD, 0x34, 0x12] with sp := 0x0001 }).map
        (fun t => (t.pc, t.sp, t.readByte 0x0000, t.readByte 0xFFFF)) =
      some (0x1234, 0xFFFF, 0x01, 0x03) := by rfl

/-- R227 `CALL NC,a16`: D4 34 12 at 0200, F=00 SP=D000 gives SP=CFFE mCFFF=02 mCFFE=03 PC=1234 clk=24. -/
theorem test_R227_CALL_NC_a16_1 :
    (after { start 0x0200 [0xD4, 0x34, 0x12] with flags := Flags.ofByte 0x00, sp := 0xD000 }).map
        (fun t => (t.sp, t.readByte 0xCFFF, t.readByte 0xCFFE, t.pc, t.clk)) =
      some (0xCFFE, 0x02, 0x03, 0x1234, 24) := by rfl

/-- R227 `CALL C,a16`: DC 00 40 at 0100, F=00 SP=D000 gives PC=0103 SP=D000 clk=12. -/
theorem test_R227_CALL_C_a16_2 :
    (after { start 0x0100 [0xDC, 0x00, 0x40] with flags := Flags.ofByte 0x00, sp := 0xD000 }).map
        (fun t => (t.pc, t.sp, t.clk)) =
      some (0x0103, 0xD000, 12) := by rfl

/-- R228 `RET`: C9 at 0100, SP=FFFC mFFFC=53 mFFFD=01 gives PC=0153 SP=FFFE clk=16. -/
theorem test_R228_RET :
    (after (poke (poke { start 0x0100 [0xC9] with sp := 0xFFFC } 0xFFFC 0x53) 0xFFFD 0x01)).map
        (fun t => (t.pc, t.sp, t.clk)) =
      some (0x0153, 0xFFFE, 16) := by rfl

/-- R229 `RET Z`: C8 at 0100, F=80 SP=CFFE mCFFE=03 mCFFF=02 gives PC=0203 SP=D000 clk=20. -/
theorem test_R229_RET_Z_1 :
    (after (poke (poke { start 0x0100 [0xC8] with flags := Flags.ofByte 0x80, sp := 0xCFFE } 0xCFFE 0x03) 0xCFFF 0x02)).map
        (fun t => (t.pc, t.sp, t.clk)) =
      some (0x0203, 0xD000, 20) := by rfl

/-- R229 `RET C`: D8 at 0100, F=10 SP=CFFE mCFFE=34 mCFFF=12 gives PC=1234 SP=D000 clk=20. -/
theorem test_R229_RET_C_2 :
    (after (poke (poke { start 0x0100 [0xD8] with flags := Flags.ofByte 0x10, sp := 0xCFFE } 0xCFFE 0x34) 0xCFFF 0x12)).map
        (fun t => (t.pc, t.sp, t.clk)) =
      some (0x1234, 0xD000, 20) := by rfl

/-- R230 `RETI`: D9 at 0100, SP=FFFC mFFFC=00 mFFFD=02 IME=0 gives PC=0200 SP=FFFE IME=1 clk=16. -/
theorem test_R230_RETI_1 :
    (after (poke (poke { start 0x0100 [0xD9] with sp := 0xFFFC, ime := false } 0xFFFC 0x00) 0xFFFD 0x02)).map
        (fun t => (t.pc, t.sp, t.ime, t.clk)) =
      some (0x0200, 0xFFFE, true, 16) := by rfl

/-- R230 `RETI`: D9 at 0100, SP=CFFE mCFFE=06 mCFFF=00 IME=0 sched=1 gives PC=0006 SP=D000 IME=1 sched=0. -/
theorem test_R230_RETI_2 :
    (after (poke (poke { start 0x0100 [0xD9] with sp := 0xCFFE, ime := false, imeSched := true } 0xCFFE 0x06) 0xCFFF 0x00)).map
        (fun t => (t.pc, t.sp, t.ime, t.imeSched)) =
      some (0x0006, 0xD000, true, false) := by rfl

/-- R231 `RST 00H`: C7 at 0200, SP=D000 gives PC=0000 SP=CFFE mCFFF=02 mCFFE=01 clk=16. -/
theorem test_R231_RST_00H :
    (after { start 0x0200 [0xC7] with sp := 0xD000 }).map
        (fun t => (t.pc, t.sp, t.readByte 0xCFFF, t.readByte 0xCFFE, t.clk)) =
      some (0x0000, 0xCFFE, 0x02, 0x01, 16) := by rfl

/-- R235 `NOP`: 00 at 0100, - gives PC=0101 clk=4. -/
theorem test_R235_NOP :
    (after (start 0x0100 [0x00])).map
        (fun t => (t.pc, t.clk)) =
      some (0x0101, 4) := by rfl

/-- R236 `HALT`: 76 at 0100, IME=1 gives halted=1 PC=0101 clk=4. -/
theorem test_R236_HALT :
    (after { start 0x0100 [0x76] with ime := true }).map
        (fun t => (t.run, t.pc, t.clk)) =
      some (RunState.halted, 0x0101, 4) := by rfl

/-- R237 `STOP`: 10 00 at 0100, - gives PC=0102 stopped=1 clk=4. -/
theorem test_R237_STOP :
    (after (start 0x0100 [0x10, 0x00])).map
        (fun t => (t.pc, t.run, t.clk)) =
      some (0x0102, RunState.stopped, 4) := by rfl

/-- R238 `DI`: F3 at 0100, IME=1 gives IME=0 clk=4. -/
theorem test_R238_DI :
    (after { start 0x0100 [0xF3] with ime := true }).map
        (fun t => (t.ime, t.clk)) =
      some (false, 4) := by rfl

/-- R239 `EI`: FB 00 at 0100, IME=0 gives IME=0 sched=1. -/
theorem test_R239_EI :
    (after { start 0x0100 [0xFB, 0x00] with ime := false }).map
        (fun t => (t.ime, t.imeSched)) =
      some (false, true) := by rfl

/-- R240 `SWAP A`: CB 37 at 0100, A=F1 gives A=1F PC=0102 clk=8. -/
theorem test_R240_SWAP_A :
    (after { start 0x0100 [0xCB, 0x37] with regs.a := 0xF1 }).map
        (fun t => (t.regs.a, t.pc, t.clk)) =
      some (0x1F, 0x0102, 8) := by rfl

/-! ## Steps, interrupts, faults, debug unit, reset (95_test_vectors.md section 2.10) -/

/-- Interrupt taken after a `NOP`: `PC` pushed, control at 0040, 24 cycles, acknowledge. -/
theorem test_interrupt_taken :
    (after { start 0x0100 [0x00] with ime := true, sp := 0xD000, irqIn := .item (some 0x0040) .quiet }).map
        (fun t => (t.pc, t.sp, t.readByte 0xCFFF, t.readByte 0xCFFE, t.ime, t.clk, t.ack)) =
      some (0x0040, 0xCFFE, 0x01, 0x01, false, 24, some 0x0040) := by rfl

/-- `RETI` then a request in the same step: the handler is entered again at once. -/
theorem test_interrupt_after_reti :
    (after (poke { start 0x0100 [0xD9] with sp := 0xCFFE, irqIn := .item (some 0x0040) .quiet } 0xCFFE 0x06)).map
        (fun t => (t.pc, t.sp, t.readByte 0xCFFF, t.readByte 0xCFFE, t.ime, t.clk)) =
      some (0x0040, 0xCFFE, 0x00, 0x06, false, 36) := by rfl

/-- `STOP` in the same step as a request: no dispatch. -/
theorem test_stop_with_request :
    (after { start 0x0100 [0x10, 0x00] with ime := true, sp := 0xD000, irqIn := .item (some 0x0040) .quiet }).map
        (fun t => (t.pc, t.run, t.ime, t.sp, t.clk)) =
      some (0x0102, .stopped, true, 0xD000, 4) := by rfl

/-- Second step of `EI`, `INC A` with the request held: commit, then dispatch; 4+20 cycles. -/
theorem test_ei_delay_then_dispatch :
    (after { start 0x0004 [0x3C] with imeSched := true, sp := 0xD000, irqIn := .item (some 0x0048) .quiet }).map
        (fun t => (t.regs.a, t.pc, t.readByte 0xCFFF, t.readByte 0xCFFE, t.ime, t.imeSched, t.cycles)) =
      some (0x01, 0x0048, 0x00, 0x05, false, false, 24) := by rfl

/-- `HALT` with `IME` = 0 and a request in the same step is refused (R268). -/
theorem test_halt_refused :
    step { start 0x0100 [0x76] with irqIn := .item (some 0x0040) .quiet } = .refused .haltWithPendingRequest := by rfl

/-- An idle step woken with `IME` = 1 dispatches with the address after the `HALT`. -/
theorem test_halt_wake_dispatch :
    (after { start 0x0101 [] with run := .halted, ime := true, sp := 0xD000, irqIn := .item (some 0x0050) .quiet }).map
        (fun t => (t.run, t.pc, t.sp, t.readByte 0xCFFF, t.readByte 0xCFFE, t.ime, t.clk)) =
      some (.running, 0x0050, 0xCFFE, 0x01, 0x01, false, 24) := by rfl

/-- The undefined byte D3 at 0300 (S10). -/
theorem test_undefined_byte :
    (after { start 0x0300 [0xD3] with regs.a := 0x11, sp := 0xD000, clk := 40 }).map
        (fun t => (t.run, t.result, t.pc, t.regs.a, t.sp, t.clk, t.trace, t.cycles)) =
      some (.faulted (.unimplementedOpcode 0xD3 0x0300), .fault (.unimplementedOpcode 0xD3 0x0300),
        0x0300, 0x11, 0xD000, 40, [], 0) := by rfl

/-- Breakpoint table, step 2: paused, nothing else changed, no sample used. -/
theorem test_breakpoint_hit :
    (after { start 0x0101 [0x00] with bp := [0x0101], irqIn := .item (some 0x0040) .quiet }).map
        (fun t => (t.result, t.dbgMode, t.pc, t.clk, t.irqIn)) =
      some (.breakpointHit 0x0101, .paused, 0x0101, 0, .item (some 0x0040) .quiet) := by rfl

/-- Breakpoint table, step 4: the host's `STEP` on a breakpoint executes and leaves the machine paused. -/
theorem test_host_step :
    (after { start 0x0101 [0x00] with bp := [0x0101], dbgMode := .paused, hostIn := .item .step .quiet }).map
        (fun t => (t.result, t.dbgMode, t.pc, t.clk)) =
      some (.ok, .paused, 0x0102, 4) := by rfl

/-- S9: two breakpoints listed in ascending order. -/
theorem test_breakpoint_list :
    ((State.reset.addBreakpoint 0x0150).addBreakpoint 0x0100).listBreakpoints = [(0, 0x0100), (1, 0x0150)] := by rfl

/-- S8: the listing is linear. -/
theorem test_disassemble :
    (disassemble (start 0x0000 [0x31, 0xFE, 0xFF, 0x01, 0x34, 0x12, 0xCD, 0x10, 0x00, 0x10, 0x00]).mem 0x0000 4).map
        (fun x => (x.address, x.mnemonic, x.operands)) =
      [(0x0000, "LD SP,d16", [0xFE, 0xFF]), (0x0003, "LD BC,d16", [0x34, 0x12]), (0x0006, "CALL a16", [0x10, 0x00]),
       (0x0009, "STOP", [0x00])] := by rfl

/-- Write trace: `LD (a16),SP`, low byte first, with the regions; newest event first in the state. -/
theorem test_write_trace :
    (after { start 0x0100 [0x08, 0xFF, 0xFF] with sp := 0x1234 }).map (·.trace) =
      some [⟨0x0000, 0x12, .rom0⟩, ⟨0xFFFF, 0x34, .io⟩] := by rfl

/-- S7: the boundary addresses. -/
theorem test_regions :
    ([0x0000, 0x3FFF, 0x4000, 0x7FFF, 0x8000, 0x97FF, 0x9800, 0x9BFF, 0x9C00, 0x9FFF, 0xA000, 0xBFFF, 0xC000, 0xDFFF,
      0xE000, 0xFDFF, 0xFE00, 0xFE9F, 0xFEA0, 0xFEFF, 0xFF00, 0xFF7F, 0xFF80, 0xFFFE, 0xFFFF] : List Word).map regionOf =
      [.rom0, .rom0, .romx, .romx, .vramChr, .vramChr, .bgmap1, .bgmap1, .bgmap2, .bgmap2, .extram, .extram, .wram, .wram,
       .echo, .echo, .oam, .oam, .unusable, .unusable, .io, .io, .hram, .hram, .io] := by rfl

/-- Reset with the image 3E 01. -/
theorem test_reset_image :
    (poweredOn [0x3E, 0x01] {} false {} .quiet .quiet).mem = [(0, 0x3E), (1, 0x01)] := by rfl

/-- The host's placing of a table word is what the next step runs. -/
theorem test_fetch_word :
    (after (State.reset.withFetchWord 16 0xCB37)).map (fun t => (t.pc, t.clk, t.flags.toByte)) = some (0x0002, 8, 0x80) := by
  rfl

/-! ## Witnesses: the hypotheses of each statement can be met, clause by clause -/

/-- A `NOP` about to run. -/
def nopState : State := start 0x0100 [0x00]

theorem test_witness_executing : Executing nopState := ⟨rfl, rfl, rfl, rfl, rfl⟩

theorem test_witness_DecodeOfEncode : (Instr.illegal 0xFD).wf = true ∧ (Instr.ldAtA16Sp 0xFFFF).wf = true := ⟨rfl, rfl⟩

theorem test_witness_DecodeOfEncode_applied :
    decode (encode (.ldAtA16Sp 0xFFFE) ++ [0x76]) = .ok (.ldAtA16Sp 0xFFFE, [0x76]) := by rfl

theorem test_witness_UndefinedByteFaults :
    Executing (start 0x0300 [0xFD]) ∧
      (decodeAt (start 0x0300 [0xFD]).mem (start 0x0300 [0xFD]).pc).desc = none := ⟨⟨rfl, rfl, rfl, rfl, rfl⟩, rfl⟩

theorem test_witness_DisassemblerAgrees :
    ((decodeAt (start 0xFFFE [0x01, 0x34, 0x12]).mem 0xFFFE).desc.map (·.length)) = some 3 ∧
      (decodeAt (start 0x0000 [0xD3]).mem 0x0000).desc = none := ⟨rfl, rfl⟩

theorem test_witness_PairLoads : Pair.bc ≠ .sp ∧ Pair.hl ≠ .sp := by decide

theorem test_witness_DaaIsDecimal :
    ({ State.reset with regs.a := 0x99 } : State).reg .a = BitVec.ofNat 8 (16 * 9 + 9) ∧ (9 < 10) ∧ (0 < 10) := by decide

/-- `NZ` taken and not taken, and the three other conditions both ways. -/
theorem test_witness_conditions :
    condHolds State.reset .nz ∧ ¬ condHolds { State.reset with flags.z := true } .nz ∧
    condHolds { State.reset with flags.z := true } .z ∧ ¬ condHolds State.reset .z ∧
    condHolds State.reset .nc ∧ ¬ condHolds { State.reset with flags.c := true } .nc ∧
    condHolds { State.reset with flags.c := true } .c ∧ ¬ condHolds State.reset .c := by
  simp [condHolds, State.reset]

theorem test_witness_EnableInterrupts :
    ({ State.reset with params.eiDelay := 0 } : State).params.eiDelay = 0 ∧
    (State.reset.params.eiDelay = 1 ∧ State.reset.ime = false) ∧
    (({ State.reset with ime := true } : State).params.eiDelay = 1 ∧ ({ State.reset with ime := true } : State).ime = true) := by
  decide

theorem test_witness_HaltEnters :
    State.reset.irqSample = none ∧ ({ State.reset with ime := true, irqIn := .item (some 0x40) .quiet } : State).ime = true := by decide

theorem test_witness_HaltRefused :
    ({ State.reset with irqIn := .item (some 0x40) .quiet } : State).ime = false ∧
      ({ State.reset with irqIn := .item (some 0x40) .quiet } : State).irqSample = some 0x40 := by decide

/-- Taken, and not taken with its own cycle count. -/
theorem test_witness_CyclesAreTheDescriptors :
    exec (.jrNzR8 0x02) State.reset = .next { State.reset with pc := 0x0004, clk := 12 } ∧
    exec (.jrZR8 0x02) State.reset = .next { State.reset with pc := 0x0002, clk := 8 } ∧
    (Instr.desc (.jrZR8 0x02)).map (·.cyclesNotTaken) = some (some 8) := ⟨rfl, rfl, rfl⟩

theorem test_witness_PcAdvancesByLength :
    exec (.ldBD8 0x7F) State.reset = .next { State.reset with regs.b := 0x7F, pc := 2, clk := 8 } ∧
    Instr.desc (.ldBD8 0x7F) = some ⟨"LD B,d8", .imm8, 102, 2, 8, none⟩ ∧ ¬ (221 ≤ 102 ∧ 102 ≤ 231) := ⟨rfl, rfl, by decide⟩

/-- One instruction of each of the four groups of rules. -/
theorem test_witness_FlagsOnlyByTheTable :
    (∃ t, exec .ldBC State.reset = .next t) ∧ (Instr.desc .ldBC).map (·.rule) = some 101 ∧
    (∃ t, exec .pushBc State.reset = .next t) ∧ (Instr.desc .pushBc).map (·.rule) = some 136 ∧
    (∃ t, exec .decDe State.reset = .next t) ∧ (Instr.desc .decDe).map (·.rule) = some 187 ∧
    (∃ t, exec .ei State.reset = .next t) ∧ (Instr.desc .ei).map (·.rule) = some 239 :=
  ⟨⟨_, rfl⟩, rfl, ⟨_, rfl⟩, rfl, ⟨_, rfl⟩, rfl, ⟨_, rfl⟩, rfl⟩

/-- `EI` changes the schedule, `STOP` the run state. -/
theorem test_witness_ControlOnlyBySystemInstructions :
    exec .ei State.reset = .next { State.reset with pc := 1, clk := 4, imeSched := true } ∧
    exec (.stop 0) State.reset = .next { State.reset with pc := 2, clk := 4, run := .stopped } := ⟨rfl, rfl⟩

theorem test_witness_StepRunsDecodedInstruction :
    Executing nopState ∧ Instr.wf .nop = true ∧
    decode [nopState.readByte nopState.pc, nopState.readByte (nopState.pc + 1), nopState.readByte (nopState.pc + 2)] =
      .ok (.nop, [0x00, 0x00]) := ⟨test_witness_executing, rfl, rfl⟩

/-- A quiet step with a scheduled enable to commit. -/
theorem test_witness_QuietStep_commit :
    Executing { nopState with imeSched := true } ∧ ({ nopState with imeSched := true } : State).irqSample = none ∧
    ∃ t, exec (decodeAt nopState.mem nopState.pc) (State.setAck { nopState with imeSched := true } none) = .next t ∧
      t.unfaulted = true := ⟨⟨rfl, rfl, rfl, rfl, rfl⟩, rfl, _, rfl, rfl⟩

/-- A quiet step that is a `STOP` with a request in its sample. -/
theorem test_witness_QuietStep_stop :
    Executing { start 0x0100 [0x10, 0x00] with irqIn := .item (some 0x40) .quiet } ∧
    ∃ t, exec (decodeAt (start 0x0100 [0x10, 0x00]).mem 0x0100)
        (State.setAck { start 0x0100 [0x10, 0x00] with irqIn := .item (some 0x40) .quiet } none) = .next t ∧
      t.run = .stopped ∧ t.unfaulted = true := ⟨⟨rfl, rfl, rfl, rfl, rfl⟩, _, rfl, rfl, rfl⟩

/-- A dispatch with `IME` 1, and one whose enable is committed in the same step. -/
theorem test_witness_InterruptDispatch :
    (Executing { nopState with ime := true, irqIn := .item (some 0x40) .quiet } ∧
      ∃ t, exec (decodeAt nopState.mem nopState.pc) (State.setAck { nopState with ime := true, irqIn := .item (some 0x40) .quiet } none) =
        .next t ∧ t.run = .running ∧ t.ime = true) ∧
    (Executing { nopState with imeSched := true, irqIn := .item (some 0x40) .quiet } ∧
      ∃ t, exec (decodeAt nopState.mem nopState.pc)
        (State.setAck { nopState with imeSched := true, irqIn := .item (some 0x40) .quiet } none) =
        .next t ∧ t.run = .running ∧ t.imeSched = true) :=
  ⟨⟨⟨rfl, rfl, rfl, rfl, rfl⟩, _, rfl, rfl, rfl⟩, ⟨rfl, rfl, rfl, rfl, rfl⟩, _, rfl, rfl, rfl⟩

/-- A dispatch in the step of a `HALT`. -/
theorem test_witness_InterruptDispatch_halt :
    Executing { start 0x0100 [0x76] with ime := true, irqIn := .item (some 0x40) .quiet } ∧
    ∃ t, exec (decodeAt (start 0x0100 [0x76]).mem 0x0100)
        (State.setAck { start 0x0100 [0x76] with ime := true, irqIn := .item (some 0x40) .quiet } none) = .next t ∧
      t.run = .halted ∧ t.ime = true := ⟨⟨rfl, rfl, rfl, rfl, rfl⟩, _, rfl, rfl, rfl⟩

theorem test_witness_MaskedRequestIgnored :
    Executing { nopState with irqIn := .item (some 0x40) .quiet } ∧ ({ nopState with irqIn := .item (some 0x40) .quiet } : State).irqSample = some 0x40 ∧
    ∃ t, exec (decodeAt nopState.mem nopState.pc) (State.setAck { nopState with irqIn := .item (some 0x40) .quiet } none) = .next t ∧
      t.run = .running ∧ t.ime = false ∧ t.imeSched = false := ⟨⟨rfl, rfl, rfl, rfl, rfl⟩, rfl, _, rfl, rfl, rfl, rfl⟩

/-- An idle step without a request, with a masked one, and with one that is taken. -/
theorem test_witness_HaltedStep :
    Idling { State.reset with run := .halted } ∧ Idling { State.reset with run := .halted, irqIn := .item (some 0x40) .quiet } ∧
    Idling { State.reset with run := .halted, ime := true, irqIn := .item (some 0x40) .quiet } ∧ State.reset.imeSched = false ∧
    State.reset.irqSample = none ∧ ({ State.reset with irqIn := .item (some 0x40) .quiet } : State).irqSample = some 0x40 :=
  ⟨⟨rfl, rfl, rfl, rfl⟩, ⟨rfl, rfl, rfl, rfl⟩, ⟨rfl, rfl, rfl, rfl⟩, rfl, rfl, rfl⟩

theorem test_witness_EndedMachineStays :
    State.reset.hostIn = .quiet ∧ ({ State.reset with exited := true } : State).exited = true ∧
    ({ State.reset with run := .stopped } : State).run = .stopped ∧
    ∃ f, ({ State.reset with run := .faulted (.unimplementedOpcode 0xD3 0) } : State).run = .faulted f :=
  ⟨rfl, rfl, rfl, _, rfl⟩

theorem test_witness_BreakpointsAndPause :
    ({ State.reset with bp := [0x0000] } : State).isBreakpoint State.reset.pc = true ∧ State.reset.dbgMode = .freeRunning ∧
    ({ State.reset with dbgMode := .paused } : State).dbgMode = .paused ∧ State.reset.exited = false := ⟨rfl, rfl, rfl, rfl⟩

/-- The paused machines that the clauses of the host's commands speak of, and a free-running one. -/
theorem test_witness_HostActions :
    (∃ t, State.executingStep (((({ nopState with dbgMode := .paused } : State).setHostIn .quiet).setAck none)) = .next t) ∧
    ({ nopState with dbgMode := .paused } : State).isBreakpoint nopState.pc = false ∧
    ({ nopState with dbgMode := .paused } : State).run = .running ∧
    ({ nopState with dbgMode := .paused, bp := [0x0100] } : State).isBreakpoint 0x0100 = true ∧
    ({ State.reset with dbgMode := .paused, run := .halted } : State).irqSample = none ∧
    ({ State.reset with dbgMode := .paused, run := .halted } : State).imeSched = false ∧
    State.reset.exited = false ∧ State.reset.dbgMode = .freeRunning ∧ State.reset.run = .running :=
  ⟨⟨_, rfl⟩, rfl, rfl, rfl, rfl, rfl, rfl, rfl, rfl⟩

/-- R293: `STEP` on a stopped and on a faulted machine does nothing. -/
theorem test_witness_HostActions_step_ended :
    let s : State := { State.reset with dbgMode := .paused, run := .stopped }
    let f : State := { State.reset with dbgMode := .paused, run := .faulted (.unimplementedOpcode 0xD3 0) }
    s.exited = false ∧ s.dbgMode = .paused ∧ s.run = .stopped ∧
    step (s.setHostIn (.item .step .quiet)) = .next { s with result := .ended } ∧
    f.exited = false ∧ f.dbgMode = .paused ∧ (∃ g, f.run = .faulted g) ∧
    step (f.setHostIn (.item .step .quiet)) = .next { f with result := .ended } :=
  ⟨rfl, rfl, rfl, rfl, rfl, rfl, ⟨_, rfl⟩, rfl⟩

/-- R293, R256: `EXIT` on a paused running machine, and on a stopped one (log 22). -/
theorem test_witness_HostActions_exit :
    let s : State := { nopState with dbgMode := .paused }
    let e : State := { State.reset with dbgMode := .paused, run := .stopped }
    s.exited = false ∧ s.dbgMode = .paused ∧
    step (s.setHostIn (.item .exit .quiet)) = .next { s with exited := true, result := .ended } ∧
    e.exited = false ∧ e.dbgMode = .paused ∧
    step (e.setHostIn (.item .exit .quiet)) = .next { e with exited := true, result := .ended } :=
  ⟨rfl, rfl, rfl, rfl, rfl, rfl⟩

/-- R292: `BREAK` on a breakpoint hits it again at once. -/
theorem test_break_on_breakpoint :
    (after { start 0x0101 [0x00] with bp := [0x0101], dbgMode := .paused, hostIn := .item .brk .quiet }).map
        (fun t => (t.result, t.dbgMode, t.pc, t.clk)) =
      some (.breakpointHit 0x0101, .paused, 0x0101, 0) := by rfl

/-- R296: a pause request is taken before the step. -/
theorem test_pause_request :
    (after { start 0x0101 [0x00] with hostIn := .item .pause .quiet }).map
        (fun t => (t.result, t.dbgMode, t.pc, t.clk)) =
      some (.waitingForHost, .paused, 0x0101, 0) := by rfl

/-- R259: the record of an `LD (BC),A` step with a request: its write event before those of the dispatch,
and 8 + 20 cycles on the step result. -/
theorem test_record :
    let s : State := { start 0x0100 [0x02] with regs.b := 0xC0, regs.a := 0x11, ime := true, sp := 0xD000,
                                                irqIn := .item (some 0x0040) .quiet }
    ((s.record 1).writes, (s.record 1).acks, (s.record 1).results, (s.record 1).stop) =
      ([⟨0xC000, 0x11, .wram⟩, ⟨0xCFFF, 0x01, .wram⟩, ⟨0xCFFE, 0x01, .wram⟩], [0x0040], [⟨.ok, 28⟩], none) := by rfl

/-- R259, R268: a refused step puts nothing out and marks the record. -/
theorem test_record_refused :
    let s : State := { start 0x0100 [0x76] with irqIn := .item (some 0x0040) .quiet }
    (s.record 1).results = [] ∧ (s.record 1).stop = some (.refused .haltWithPendingRequest) := ⟨rfl, rfl⟩

/-- R6: the free input `IRQ` is sampled from its place on, and one sample is used by an executing step. -/
theorem test_free_irq_used (k : Nat) :
    ({ State.reset with irqIn := .oracle k } : State).irqSample = Config.irqOracle k ∧
    (State.dropSample { State.reset with irqIn := .oracle k }).irqIn = .oracle (k + 1) := ⟨rfl, rfl⟩

theorem test_witness_BreakpointSet :
    ascending [0x0100, 0x0150] = true ∧ ([0x0100, 0x0150] : List Word)[0]? = some 0x0100 ∧
    ([0x0100, 0x0150] : List Word)[1]? = some 0x0150 ∧
    ({ State.reset with bp := [0x0100, 0x0150] } : State).isBreakpoint 0x0100 = true := by decide

theorem test_witness_PowerOn :
    ([0x3E, 0x01] : List Byte).length ≤ 65536 ∧ 65536 < (List.replicate 65537 (0 : Byte)).length :=
  ⟨by decide, by rw [List.length_replicate]; decide⟩

theorem test_witness_StepKeepsInvariant : StateInv State.reset ∧ ∃ t, step State.reset = .next t :=
  ⟨⟨rfl, rfl, by decide, by decide, by decide⟩, _, rfl⟩

end Sys2Proof.Tests
end

section
/-! SUPPORT. What every instruction leaves alone: one case split over the effects, cited by every statement
about all instructions (R17, R20 to R22, R25, R26). -/

namespace Sys2Proof.Machine

/-- The instructions of the effect stand in one of the flag table's rows (R149), given as ranges of rules:
`LD HL,SP+r8`, `POP AF`, the 8-bit operations, `ADD HL,rr`, `ADD SP,r8`, and the rotates, shifts and `BIT`. -/
def Effect.InFlagTable (e : Effect) : Prop :=
  ∃ row ∈ [(135, 135), (139, 139), (150, 181), (185, 185), (188, 188), (190, 211)],
    row.1 ≤ (Effect.ruleRange e).1 ∧ (Effect.ruleRange e).2 ≤ row.2

/-- What the instruction of an effect can change beside registers, `SP`, `PC`, memory and the clock. -/
structure Effect.Kept (e : Effect) (s t : State) : Prop where
  engine : EngineKept s t
  enable : (t.ime = s.ime ∧ t.imeSched = s.imeSched) ∨ e = .di ∨ e = .ei ∨ e = .reti
  run : t.run = s.run ∨ e = .halt ∨ (∃ pad, e = .stop pad) ∨ ∃ b, e = .illegal b
  flags : t.flags = s.flags ∨ Effect.InFlagTable e

theorem engineKept_iff (s t : State) : EngineKept s t ↔
    t.bp = s.bp ∧ t.dbgMode = s.dbgMode ∧ t.params = s.params ∧ t.irqIn = s.irqIn ∧ t.hostIn = s.hostIn ∧
    t.exited = s.exited ∧ t.ack = s.ack ∧ t.result = s.result ∧ t.cycles = s.cycles :=
  ⟨fun ⟨h1, h2, h3, h4, h5, h6, h7, h8, h9⟩ => ⟨h1, h2, h3, h4, h5, h6, h7, h8, h9⟩,
    fun ⟨h1, h2, h3, h4, h5, h6, h7, h8, h9⟩ => ⟨h1, h2, h3, h4, h5, h6, h7, h8, h9⟩⟩

/-- `Effect.Kept` as a conjunction, the form `simp` decides for one effect. -/
theorem Effect.kept_iff (e : Effect) (s t : State) : Effect.Kept e s t ↔
    EngineKept s t ∧ ((t.ime = s.ime ∧ t.imeSched = s.imeSched) ∨ e = .di ∨ e = .ei ∨ e = .reti) ∧
    (t.run = s.run ∨ e = .halt ∨ (∃ pad, e = .stop pad) ∨ ∃ b, e = .illegal b) ∧
    (t.flags = s.flags ∨ Effect.InFlagTable e) :=
  ⟨fun ⟨h1, h2, h3, h4⟩ => ⟨h1, h2, h3, h4⟩, fun ⟨h1, h2, h3, h4⟩ => ⟨h1, h2, h3, h4⟩⟩

/-- Whatever an instruction does, it keeps the debug unit, the parameters, the inputs and the outputs, the enable
unless it is `DI`, `EI` or `RETI`, the run state unless it is `HALT`, `STOP` or an undefined byte, and the flags
outside the flag table's rows. -/
theorem run_kept (e : Effect) {s t : State} (h : Effect.run e s = .next t) : Effect.Kept e s t := by
  rw [Effect.kept_iff, engineKept_iff]
  cases e with
  | ldRegReg r q => cases (runLdRegReg_next r q s).symm.trans h; simp
  | ldRegImm r n => cases (runLdRegImm_next r n s).symm.trans h; simp
  | ldRegAtHl r => cases (runLdRegAtHl_next r s).symm.trans h; simp
  | ldAtHlReg r => cases (runLdAtHlReg_next r s).symm.trans h; simp
  | ldAtHlImm n => cases (runLdAtHlImm_next n s).symm.trans h; simp
  | ldAccAtBc => cases (runLdAccAtBc_next s).symm.trans h; simp
  | ldAccAtDe => cases (runLdAccAtDe_next s).symm.trans h; simp
  | ldAtBcAcc => cases (runLdAtBcAcc_next s).symm.trans h; simp
  | ldAtDeAcc => cases (runLdAtDeAcc_next s).symm.trans h; simp
  | ldAccAtAbs w => cases (runLdAccAtAbs_next w s).symm.trans h; simp
  | ldAtAbsAcc w => cases (runLdAtAbsAcc_next w s).symm.trans h; simp
  | ldAccAtHigh n => cases (runLdAccAtHigh_next n s).symm.trans h; simp
  | ldAtHighAcc n => cases (runLdAtHighAcc_next n s).symm.trans h; simp
  | ldAccAtC => cases (runLdAccAtC_next s).symm.trans h; simp
  | ldAtCAcc => cases (runLdAtCAcc_next s).symm.trans h; simp
  | ldAtHlIncAcc => cases (runLdAtHlIncAcc_next s).symm.trans h; simp
  | ldAccAtHlInc => cases (runLdAccAtHlInc_next s).symm.trans h; simp
  | ldAtHlDecAcc => cases (runLdAtHlDecAcc_next s).symm.trans h; simp
  | ldAccAtHlDec => cases (runLdAccAtHlDec_next s).symm.trans h; simp
  | ldPairImm p w => cases (runLdPairImm_next p w s).symm.trans h; simp
  | ldAtAbsSp w => cases (runLdAtAbsSp_next w s).symm.trans h; simp
  | ldSpFromHl => cases (runLdSpFromHl_next s).symm.trans h; simp
  | ldHlSpOffset e => cases (runLdHlSpOffset_next e s).symm.trans h; simp [Effect.InFlagTable, Effect.ruleRange]
  | pushPair p => cases (runPushPair_next p s).symm.trans h; simp
  | pushAf => cases (runPushAf_next s).symm.trans h; simp
  | popPair p => cases (runPopPair_next p s).symm.trans h; simp
  | popAf => cases (runPopAf_next s).symm.trans h; simp [Effect.InFlagTable, Effect.ruleRange]
  | aluReg op r => cases (runAluReg_next op r s).symm.trans h; simp [Effect.InFlagTable, Effect.ruleRange]
  | aluAtHl op => cases (runAluAtHl_next op s).symm.trans h; simp [Effect.InFlagTable, Effect.ruleRange]
  | aluImm op n => cases (runAluImm_next op n s).symm.trans h; simp [Effect.InFlagTable, Effect.ruleRange]
  | incReg r => cases (runIncReg_next r s).symm.trans h; simp [Effect.InFlagTable, Effect.ruleRange]
  | incAtHl => cases (runIncAtHl_next s).symm.trans h; simp [Effect.InFlagTable, Effect.ruleRange]
  | decReg r => cases (runDecReg_next r s).symm.trans h; simp [Effect.InFlagTable, Effect.ruleRange]
  | decAtHl => cases (runDecAtHl_next s).symm.trans h; simp [Effect.InFlagTable, Effect.ruleRange]
  | daa => cases (runDaa_next s).symm.trans h; simp [Effect.InFlagTable, Effect.ruleRange]
  | cpl => cases (runCpl_next s).symm.trans h; simp [Effect.InFlagTable, Effect.ruleRange]
  | scf => cases (runScf_next s).symm.trans h; simp [Effect.InFlagTable, Effect.ruleRange]
  | ccf => cases (runCcf_next s).symm.trans h; simp [Effect.InFlagTable, Effect.ruleRange]
  | addHlPair p => cases (runAddHlPair_next p s).symm.trans h; simp [Effect.InFlagTable, Effect.ruleRange]
  | incPair p => cases (runIncPair_next p s).symm.trans h; simp
  | decPair p => cases (runDecPair_next p s).symm.trans h; simp
  | addSpOffset e => cases (runAddSpOffset_next e s).symm.trans h; simp [Effect.InFlagTable, Effect.ruleRange]
  | rlca => cases (runRlca_next s).symm.trans h; simp [Effect.InFlagTable, Effect.ruleRange]
  | rrca => cases (runRrca_next s).symm.trans h; simp [Effect.InFlagTable, Effect.ruleRange]
  | rla => cases (runRla_next s).symm.trans h; simp [Effect.InFlagTable, Effect.ruleRange]
  | rra => cases (runRra_next s).symm.trans h; simp [Effect.InFlagTable, Effect.ruleRange]
  | rotReg op r => cases (runRotReg_next op r s).symm.trans h; simp [Effect.InFlagTable, Effect.ruleRange]
  | rotAtHl op => cases (runRotAtHl_next op s).symm.trans h; simp [Effect.InFlagTable, Effect.ruleRange]
  | bitReg i r => cases (runBitReg_next i r s).symm.trans h; simp [Effect.InFlagTable, Effect.ruleRange]
  | bitAtHl i => cases (runBitAtHl_next i s).symm.trans h; simp [Effect.InFlagTable, Effect.ruleRange]
  | resReg i r => cases (runResReg_next i r s).symm.trans h; simp
  | resAtHl i => cases (runResAtHl_next i s).symm.trans h; simp
  | setReg i r => cases (runSetReg_next i r s).symm.trans h; simp
  | setAtHl i => cases (runSetAtHl_next i s).symm.trans h; simp
  | jpAbs w => cases (runJpAbs_next w s).symm.trans h; simp
  | jpCond cc w => cases (runJpCond_next cc w s).symm.trans h; split <;> simp
  | jpHl => cases (runJpHl_next s).symm.trans h; simp
  | jrRel e => cases (runJrRel_next e s).symm.trans h; simp
  | jrCond cc e => cases (runJrCond_next cc e s).symm.trans h; split <;> simp
  | callAbs w => cases (runCallAbs_next w s).symm.trans h; simp
  | callCond cc w => cases (runCallCond_next cc w s).symm.trans h; split <;> simp
  | ret => cases (runRet_next s).symm.trans h; simp
  | retCond cc => cases (runRetCond_next cc s).symm.trans h; split <;> simp
  | reti => cases (runReti_next s).symm.trans h; simp
  | rst t => cases (runRst_next t s).symm.trans h; simp
  | nop => cases (runNop_next s).symm.trans h; simp
  | halt =>
    obtain ⟨_, _, hr⟩ | ⟨_, hr⟩ := runHalt_cases s <;> cases hr.symm.trans h
    simp
  | stop pad => cases (runStop_next pad s).symm.trans h; simp
  | di => cases (runDi_next s).symm.trans h; simp
  | ei => cases (runEi_next s).symm.trans h; split <;> [skip; split] <;> simp
  | illegal b => cases (runIllegal_next b s).symm.trans h; simp

/-- The same, of `exec`. -/
theorem exec_kept {i : Instr} {s t : State} (h : exec i s = .next t) : Effect.Kept (Instr.effect i) s t :=
  run_kept (Instr.effect i) ((exec_eq_run i s).symm.trans h)

/-- The rule an instruction's descriptor cites is one of its effect's rules. -/
theorem desc_rule_mem {i : Instr} {d : Descriptor} (h : i.desc = some d) :
    (Effect.ruleRange (Instr.effect i)).1 ≤ d.rule ∧ d.rule ≤ (Effect.ruleRange (Instr.effect i)).2 := by
  obtain ⟨_, _, _, hlo, hhi⟩ := desc_effect (Instr.effect i) d (by rwa [instr_effect])
  exact ⟨hlo, hhi⟩

/-- An instruction with a given effect is the instruction of that effect. -/
theorem eq_instr_of_effect {i : Instr} {e : Effect} (h : Instr.effect i = e) : i = e.instr := by
  rw [← h, instr_effect]

end Sys2Proof.Machine
end

section
/-! SUPPORT. The breakpoint set stays strictly ascending (R25, R291). -/

namespace Sys2Proof.Machine

theorem ascending_iff_pairwise (l : List Word) :
    ascending l = true ↔ l.Pairwise fun x y => x.toNat < y.toNat := by
  induction l with
  | nil => simp [ascending]
  | cons x l ih =>
    cases l with
    | nil => simp [ascending]
    | cons y ys =>
      simp only [ascending, Bool.and_eq_true, decide_eq_true_eq, ih, List.pairwise_cons, List.forall_mem_cons]
      exact ⟨fun ⟨hxy, hy, hys⟩ => ⟨⟨hxy, fun z hz => hxy.trans (hy z hz)⟩, hy, hys⟩,
        fun ⟨⟨hxy, _⟩, hy, hys⟩ => ⟨hxy, hy, hys⟩⟩

theorem mem_insertAscending {x y : Word} {l : List Word} : y ∈ insertAscending x l ↔ y = x ∨ y ∈ l := by
  induction l with
  | nil => simp [insertAscending]
  | cons z l ih =>
    unfold insertAscending
    split
    · simp
    · split
      · next h => simp [h]
      · simp [ih, or_left_comm]

theorem ascending_insertAscending (x : Word) {l : List Word} (h : ascending l = true) :
    ascending (insertAscending x l) = true := by
  rw [ascending_iff_pairwise] at h ⊢
  induction l with
  | nil => simp [insertAscending]
  | cons y l ih =>
    obtain ⟨hy, hl⟩ := List.pairwise_cons.1 h
    unfold insertAscending
    split
    · next hxy => exact List.pairwise_cons.2 ⟨List.forall_mem_cons.2 ⟨hxy, fun z hz => hxy.trans (hy z hz)⟩, h⟩
    · split
      · exact h
      · next hnlt hne =>
        have hyx : y.toNat < x.toNat := by
          have : x.toNat ≠ y.toNat := fun he => hne (BitVec.eq_of_toNat_eq he)
          omega
        refine List.pairwise_cons.2 ⟨fun z hz => ?_, ih hl⟩
        obtain rfl | hz := mem_insertAscending.1 hz
        · exact hyx
        · exact hy z hz

theorem ascending_eraseIdx (i : Nat) {l : List Word} (h : ascending l = true) : ascending (l.eraseIdx i) = true := by
  rw [ascending_iff_pairwise] at h ⊢
  exact h.sublist (List.eraseIdx_sublist l i)

end Sys2Proof.Machine
end

section
/-! SUPPORT. Every part of a step keeps the machine's invariant, and so does the step (R21, R24, R25, R248,
R272). -/

namespace Sys2Proof.Machine

/-! ## Updates of fields the invariant does not read -/

theorem StateInv.setAck {s : State} (h : StateInv s) (x : Option Word) : StateInv (s.setAck x) :=
  { h with }

theorem StateInv.setHostIn {s : State} (h : StateInv s) (x : Feed HostCmd) : StateInv (s.setHostIn x) :=
  { h with }

theorem StateInv.setDbgMode {s : State} (h : StateInv s) (m : DbgMode) : StateInv (s.setDbgMode m) :=
  { h with }

theorem StateInv.setExited {s : State} (h : StateInv s) (x : Bool) : StateInv (s.setExited x) :=
  { h with }

theorem StateInv.report {s : State} (h : StateInv s) (r : StepResult) (n : Nat) : StateInv (s.report r n) :=
  { h with }

theorem StateInv.dropSample {s : State} (h : StateInv s) : StateInv s.dropSample :=
  { h with }

theorem StateInv.addClk {s : State} (h : StateInv s) (n : Nat) : StateInv (s.addClk n) :=
  { h with }

/-! ## The host action -/

theorem StateInv.setBp {s : State} (h : StateInv s) {l : List Word} (hl : ascending l = true) : StateInv (s.setBp l) :=
  { h with breakpointsAscending := hl }

theorem StateInv.hostAct {s : State} (h : StateInv s) (c : HostCmd) : StateInv (s.hostAct c) := by
  obtain hc | ⟨m, hc⟩ | hc | ⟨x, hc⟩ | ⟨i, hc⟩ := s.hostAct_cases c <;> rw [hc]
  · exact h
  · exact h.setDbgMode m
  · exact h.setExited true
  · exact h.setBp (ascending_insertAscending x h.breakpointsAscending)
  · exact h.setBp (ascending_eraseIdx i h.breakpointsAscending)

theorem StateInv.afterHost {s : State} (h : StateInv s) : StateInv s.afterHost :=
  (h.setHostIn s.hostIn.tail).hostAct s.hostCmd

/-! ## The instruction part

A `HALT` in the shadow of `EI` leaves a halted state with the enable still scheduled, so between the
instruction part and the commit the last clause of the invariant is weaker: that schedule is one of before the
step, which the commit is about to take (R248). -/

/-- What holds of the state `t` that the instruction part of a step from `s` leaves. -/
structure PreCommit (s t : State) : Prop where
  memCanonical : t.mem.wf = true
  breakpointsAscending : ascending t.bp = true
  oneEnable : t.ime = true → t.imeSched = false
  noDelayNoSchedule : t.params.eiDelay = 0 → t.imeSched = false
  haltedSchedule : t.run = .halted → t.imeSched = true → s.imeSched = true

/-- A state that meets the invariant meets the weaker one, whatever the state before. -/
theorem StateInv.preCommit {t : State} (h : StateInv t) (s : State) : PreCommit s t :=
  { h with haltedSchedule := fun hr hs => absurd hs (by simp [h.haltedNoSchedule hr]) }

/-- After `DI`, `RETI` or an `EI` the enable and its schedule still go together; a running machine stays so. -/
theorem run_enable_inv {e : Effect} {s t : State} (hs : StateInv s) (hr : s.run = .running)
    (he : e = .di ∨ e = .ei ∨ e = .reti) (h : Effect.run e s = .next t) :
    t.run = .running ∧ (t.ime = true → t.imeSched = false) ∧ (s.params.eiDelay = 0 → t.imeSched = false) := by
  obtain rfl | rfl | rfl := he
  · cases (runDi_next s).symm.trans h
    simp [hr]
  · cases (runEi_next s).symm.trans h
    by_cases hd : s.params.eiDelay = 0
    · simp [hd, hr, hs.noDelayNoSchedule hd]
    · cases hi : s.ime
      · simp [hd, hr, hi]
      · simp [hd, hr, hs.oneEnable hi]
  · cases (runReti_next s).symm.trans h
    simp [hr]

theorem run_preCommit {e : Effect} {s t : State} (hs : StateInv s) (hr : s.run = .running)
    (h : Effect.run e s = .next t) : PreCommit s t := by
  obtain ⟨hengine, henable, -, -⟩ := run_kept e h
  have hmem : t.mem.wf = true := run_mem_wf e h hs.memCanonical
  have hbp : ascending t.bp = true := hengine.bp ▸ hs.breakpointsAscending
  obtain ⟨hime, hsched⟩ | he := henable
  · refine ⟨hmem, hbp, ?_, ?_, ?_⟩
    · rw [hime, hsched]; exact hs.oneEnable
    · rw [hengine.params, hsched]; exact hs.noDelayNoSchedule
    · rw [hsched]; exact fun _ => id
  · obtain ⟨hrun, hone, hdelay⟩ := run_enable_inv hs hr he h
    exact ⟨hmem, hbp, hone, hengine.params ▸ hdelay, by simp [hrun]⟩

/-- The instruction part of a live machine: the instruction at `PC`, or an idle step, which changes the clock alone. -/
theorem execute_preCommit {s t : State} (hs : StateInv s) (hlive : s.run = .running ∨ s.run = .halted)
    (h : s.execute = .next t) : PreCommit s t := by
  obtain hr | hr := hlive
  · rw [State.execute_running hr, exec_eq_run] at h
    exact run_preCommit hs hr h
  · cases (State.execute_halted hr).symm.trans h
    exact (hs.addClk s.params.haltTick).preCommit s

/-! ## Commit and poll -/

/-- The commit ends every scheduled enable of before the step, so no halted state keeps one (R248). -/
theorem PreCommit.commitEi {s t : State} (h : PreCommit s t) : StateInv (t.commitEi s.imeSched) := by
  obtain ⟨-, -, hc⟩ | ⟨hno, hc⟩ := t.commitEi_cases s.imeSched <;> rw [hc]
  · exact ⟨h.memCanonical, h.breakpointsAscending, fun _ => rfl, fun _ => rfl, fun _ => rfl⟩
  · refine ⟨h.memCanonical, h.breakpointsAscending, h.oneEnable, h.noDelayNoSchedule, fun hr => ?_⟩
    cases ht : t.imeSched
    · rfl
    · simp [h.haltedSchedule hr ht, ht] at hno

/-- A fault skips the commit, and its state is not halted (R250). -/
theorem PreCommit.of_not_halted {s t : State} (h : PreCommit s t) (hr : t.run ≠ .halted) : StateInv t :=
  { h with haltedNoSchedule := fun hh => absurd hh hr }

theorem StateInv.wake {s : State} (h : StateInv s) : StateInv s.wake := by
  obtain ⟨-, hw⟩ | ⟨-, hw⟩ := s.wake_cases <;> rw [hw]
  · exact { h with haltedNoSchedule := fun hr => nomatch hr }
  · exact h

/-- The dispatch clears the enable and its schedule and pushes onto canonical memory (R272). -/
theorem StateInv.enterInterrupt {s : State} (h : StateInv s) (v : Word) : StateInv (s.enterInterrupt v) :=
  have hmem : (s.enterInterrupt v).mem.wf = true := by
    rw [State.enterInterrupt_mem]; exact State.push16_wf h.memCanonical
  ⟨hmem, by simpa using h.breakpointsAscending, by simp, by simp, by simp⟩

theorem StateInv.poll {s : State} (h : StateInv s) (q : Option Word) : StateInv (s.poll q) := by
  obtain ⟨-, hq⟩ | ⟨v, -, -, hq⟩ | ⟨v, -, -, hq⟩ := s.poll_cases q <;> rw [hq]
  · exact h
  · exact h.wake
  · exact h.wake.enterInterrupt v

theorem StateInv.pollUnlessStopped {s : State} (h : StateInv s) (q : Option Word) :
    StateInv (s.pollUnlessStopped q) := by
  unfold State.pollUnlessStopped
  split
  · exact h
  · exact h.poll q

/-! ## The step -/

theorem PreCommit.finish {s t : State} (h : PreCommit s t) : StateInv (s.finish t) := by
  obtain ⟨f, hr, hf⟩ | ⟨-, hf⟩ := s.finish_cases t <;> rw [hf]
  · exact (h.of_not_halted (by simp [hr])).dropSample.report (.fault f) 0
  · exact (h.commitEi.pollUnlessStopped s.irqSample).dropSample.report .ok _

theorem StateInv.stepWith {s t : State} (hs : StateInv s) {single : Bool} (h : s.stepWith single = .next t) :
    StateInv t := by
  obtain ⟨-, hc⟩ | ⟨-, -, -, hc⟩ | ⟨-, -, hc⟩ | ⟨hl, -, -, hc⟩ := s.stepWith_cases single <;> rw [hc] at h
  · cases h; exact hs.report .ended 0
  · cases h; exact hs.report .waitingForHost 0
  · cases h; exact (hs.setDbgMode .paused).report (.breakpointHit s.pc) 0
  · obtain ⟨v, hv, rfl⟩ := State.executingStep_next.1 h
    exact (execute_preCommit hs (s.live_iff.1 hl).2 hv).finish

/-- Settles O60: the host action, the instruction part, the commit and the poll each keep the invariant. -/
theorem stepKeepsInvariant : Obligations.StepKeepsInvariant :=
  fun _ _ hs h => (hs.afterHost.setAck none).stepWith h

end Sys2Proof.Machine
end

section
/-! SUPPORT. The statements of 10_state.md: pairs, the flag byte, what instructions leave alone, reset. -/

namespace Sys2Proof.Machine

/-- A pair written and read back (R13). -/
@[simp] theorem State.pair_setPair_same (s : State) (p : Pair) (v : Word) : (s.setPair p v).pair p = v := by
  cases p with
  | bc => exact joinBytes_hi_lo v
  | de => exact joinBytes_hi_lo v
  | hl => exact joinBytes_hi_lo v
  | sp => rfl

/-- Writing a pair leaves the registers it is not made of (R13). -/
theorem State.setPair_regsKept (s : State) (p : Pair) (v : Word) : RegsKeptExcept (pairRegs p) s (s.setPair p v) := by
  intro r hr
  cases p with
  | bc => rw [State.setPair_bc_reg]; simp_all [pairRegs]
  | de => rw [State.setPair_de_reg]; simp_all [pairRegs]
  | hl => rw [State.setPair_hl_reg]; simp_all [pairRegs]
  | sp => rfl

/-- Settles O9: reading joins the two halves, and writing sets just those. -/
theorem pairsAreViews : Obligations.PairsAreViews :=
  fun s v _ => ⟨fun p => s.pair_setPair_same p v, rfl, rfl, rfl, rfl, rfl, rfl,
    s.setPair_regsKept .bc v, s.setPair_regsKept .de v, s.setPair_regsKept .hl v⟩

/-- The flag byte has the flags in bits 7 to 4 and nothing below (R16). -/
theorem Flags.toByte_layout (f : Flags) : f.toByte.getLsbD 7 = f.z ∧ f.toByte.getLsbD 6 = f.n ∧
    f.toByte.getLsbD 5 = f.h ∧ f.toByte.getLsbD 4 = f.c ∧ f.toByte &&& 0x0F = 0 := by
  obtain ⟨z, n, h, c⟩ := f
  revert z n h c
  decide

/-- A byte written to `F` keeps its high nibble (R16). -/
theorem Flags.toByte_ofByte (v : Byte) : (Flags.ofByte v).toByte = v &&& 0xF0 := by
  have hmask : (0xF0 : Byte) = .twoPow 8 7 ||| .twoPow 8 6 ||| .twoPow 8 5 ||| .twoPow 8 4 := rfl
  rw [hmask]
  simp only [BitVec.and_or_distrib_left, BitVec.and_twoPow]
  rfl

/-- Settles O10: the byte's layout for all sixteen flag values, and the mask of the high nibble bit by bit. -/
theorem flagByteLayout : Obligations.FlagByteLayout :=
  ⟨Flags.toByte_layout, Flags.toByte_ofByte, fun s v => ⟨by simp, by rw [State.setAf_flags, Flags.toByte_ofByte]⟩⟩

/-- Settles O46: a rule of the statement's list lies in no row of the flag table, so the effect that follows it
keeps the flags. -/
theorem flagsOnlyByTheTable : Obligations.FlagsOnlyByTheTable := by
  intro i s t d h hd hrule
  obtain ⟨hlo, hhi⟩ := desc_rule_mem hd
  obtain hf | ⟨row, hrow, hrow1, hrow2⟩ := (exec_kept h).flags
  · exact hf
  · simp only [List.mem_cons, List.not_mem_nil, or_false] at hrow
    obtain rfl | rfl | rfl | rfl | rfl | rfl := hrow <;> omega

/-- Settles O47: `Effect.Kept` of the instruction's effect, read back as an instruction. -/
theorem controlOnlyBySystemInstructions : Obligations.ControlOnlyBySystemInstructions := by
  intro i s t h
  obtain ⟨hengine, henable, hrun, -⟩ := exec_kept h
  refine ⟨hengine, fun hne => ?_, fun hne => ?_⟩
  · obtain ⟨hime, hsched⟩ | he | he | he := henable
    · simp [hime, hsched] at hne
    · exact .inl (eq_instr_of_effect he)
    · exact .inr (.inl (eq_instr_of_effect he))
    · exact .inr (.inr (eq_instr_of_effect he))
  · obtain hr | he | ⟨pad, he⟩ | ⟨b, he⟩ := hrun
    · exact absurd hr hne
    · exact .inl (eq_instr_of_effect he)
    · exact .inr (.inl ⟨pad, eq_instr_of_effect he⟩)
    · exact .inr (.inr ⟨b, eq_instr_of_effect he⟩)

/-- The invariant holds at reset. -/
theorem stateInv_reset : StateInv State.reset :=
  ⟨reset_memory_wf, rfl, fun _ => rfl, fun _ => rfl, fun _ => rfl⟩

/-- Settles O59: every field is the one `State.reset` gives, and an unwritten byte reads 0. -/
theorem resetState : Obligations.ResetState :=
  ⟨fun _ => rfl, rfl, fun r => by cases r <;> rfl, rfl, rfl, rfl, rfl, rfl, rfl, rfl, rfl, stateInv_reset⟩

end Sys2Proof.Machine
end

section
/-! SUPPORT. The statements of 20_memory.md: the byte write and the region table. -/

namespace Sys2Proof.Machine

/-- A byte write leaves every field but the store and the trace (R44). -/
theorem State.writeByte_frame (s : State) (a : Word) (v : Byte) :
    { s.writeByte a v with mem := s.mem, trace := s.trace } = s := rfl

/-- Settles O7: the read law, the event and the frame of a byte write. -/
theorem writeDoesTwoThings : Obligations.WriteDoesTwoThings :=
  fun s a v => ⟨fun b => s.readByte_writeByte a b v, s.writeByte_trace a v, s.writeByte_frame a v⟩

/-- In a table whose rows each begin right after the row before, an address between the first row's begin and
the last row's end lies in a row. -/
theorem exists_row_of_gapless {r : RegionRow} {rows : List RegionRow}
    (hc : (r :: rows).IsChain fun p q => q.first = p.last + 1) {n : Nat} (hfirst : r.first ≤ n)
    (hlast : n ≤ ((r :: rows).getLast (List.cons_ne_nil r rows)).last) :
    ∃ q ∈ r :: rows, q.first ≤ n ∧ n ≤ q.last := by
  induction rows generalizing r with
  | nil => exact ⟨r, List.mem_cons_self, hfirst, hlast⟩
  | cons p rows ih =>
    obtain ⟨hnext, hrest⟩ := List.isChain_cons_cons.1 hc
    by_cases hn : n ≤ r.last
    · exact ⟨r, List.mem_cons_self, hfirst, hn⟩
    · obtain ⟨q, hq, hbounds⟩ := ih hrest (by omega) hlast
      exact ⟨q, List.mem_cons_of_mem r hq, hbounds⟩

/-- Each row of the region table begins right after the row before (R41). -/
theorem regionTable_gapless : regionTable.IsChain fun p q => q.first = p.last + 1 := by decide

/-- The rows of the region table leave no address out (R42). -/
theorem exists_regionTable_row (a : Word) : ∃ r ∈ regionTable, r.first ≤ a.toNat ∧ a.toNat ≤ r.last :=
  exists_row_of_gapless regionTable_gapless (Nat.zero_le _) (Nat.le_of_lt_succ a.isLt)

/-- Settles O8: the rows leave no address out, and they do not overlap. -/
theorem oneRegionPerAddress : Obligations.OneRegionPerAddress := by
  refine ⟨rfl, fun a => ?_⟩
  obtain ⟨r, hr, hfirst, hlast⟩ := exists_regionTable_row a
  obtain ⟨hone, hregion⟩ := regionIn_of_mem regionTable_rising hr hfirst hlast
  exact ⟨r, hr, hfirst, hlast, hone, by rw [regionOf, hregion, Option.getD_some]⟩

end Sys2Proof.Machine
end

section
/-! SUPPORT. The statement of 30_encoding.md R80 and 50_step.md R247, R259: every part of a step commutes with
setting the clock later, and so do the step and the record of a run. -/

namespace Sys2Proof.Machine

/-- The same state with a later clock.  The shift stands before the clock so that adding an instruction's fixed
cycles to it computes: `n + clk + 4` is `n + (clk + 4)` by definition. -/
def State.later (n : Nat) (s : State) : State := s.setClk (n + s.clk)

/-- The same answer, its next state with a later clock. -/
def laterAnswer (n : Nat) : Answer → Answer
  | .next t => .next (t.later n)
  | .fault f => .fault f
  | .refused r => .refused r

@[simp] theorem laterAnswer_next (n : Nat) (t : State) : laterAnswer n (.next t) = .next (t.later n) := rfl

@[simp] theorem State.later_clk (n : Nat) (s : State) : (s.later n).clk = n + s.clk := rfl
@[simp] theorem State.later_run (n : Nat) (s : State) : (s.later n).run = s.run := rfl
@[simp] theorem State.later_ime (n : Nat) (s : State) : (s.later n).ime = s.ime := rfl
@[simp] theorem State.later_imeSched (n : Nat) (s : State) : (s.later n).imeSched = s.imeSched := rfl
@[simp] theorem State.later_dbgMode (n : Nat) (s : State) : (s.later n).dbgMode = s.dbgMode := rfl
@[simp] theorem State.later_exited (n : Nat) (s : State) : (s.later n).exited = s.exited := rfl
@[simp] theorem State.later_irqSample (n : Nat) (s : State) : (s.later n).irqSample = s.irqSample := rfl

/-- Cycles are added to the later clock as to the earlier one. -/
theorem State.addClk_later (s : State) (n k : Nat) : (s.later n).addClk k = (s.addClk k).later n :=
  congrArg s.setClk (Nat.add_assoc n s.clk k)

theorem State.ite_later (p : Prop) [Decidable p] (n : Nat) (s t : State) :
    (if p then s else t).later n = if p then s.later n else t.later n := apply_ite (State.later n) p s t

/-! ## The instruction part -/

/-- No instruction reads the clock.  Those that branch do so on flags, `IME`, the sample, a parameter or a
selector of the encoding; every other one is a single chain of updates that the shift passes through. -/
theorem run_later (e : Effect) (n : Nat) (s : State) : Effect.run e (s.later n) = laterAnswer n (Effect.run e s) := by
  cases e with
  | jpCond cc w => simp only [Effect.run, runJpCond_next, laterAnswer_next, State.ite_later]; rfl
  | jrCond cc e => simp only [Effect.run, runJrCond_next, laterAnswer_next, State.ite_later]; rfl
  | callCond cc w => simp only [Effect.run, runCallCond_next, laterAnswer_next, State.ite_later]; rfl
  | retCond cc => simp only [Effect.run, runRetCond_next, laterAnswer_next, State.ite_later]; rfl
  | ei => simp only [Effect.run, runEi_next, laterAnswer_next, ← State.addClk_later, State.ite_later]; rfl
  | halt => simp only [Effect.run, runHalt, State.later_ime, State.later_irqSample]; split <;> rfl
  | ldPairImm p w => cases p <;> rfl
  | popPair p => cases p <;> rfl
  | incPair p => cases p <;> rfl
  | decPair p => cases p <;> rfl
  | aluReg op r => cases op <;> rfl
  | aluAtHl op => cases op <;> rfl
  | aluImm op b => cases op <;> rfl
  | _ => rfl

theorem exec_later (i : Instr) (n : Nat) (s : State) : exec i (s.later n) = laterAnswer n (exec i s) := by
  rw [exec_eq_run, exec_eq_run, run_later]

/-- The instruction at `PC`, or the idle step's ticks, under a later clock. -/
theorem State.execute_later (n : Nat) (s : State) : (s.later n).execute = laterAnswer n s.execute := by
  simp only [State.execute, State.later_run]
  split
  · exact exec_later (decodeAt s.mem s.pc) n s
  · exact congrArg Host.Outcome.next (s.addClk_later n s.params.haltTick)

/-! ## The rest of the step -/

theorem State.commitEi_later (n : Nat) (t : State) (b : Bool) : (t.later n).commitEi b = (t.commitEi b).later n := by
  simp only [State.commitEi, State.later_imeSched, State.ite_later]
  rfl

theorem State.wake_later (n : Nat) (t : State) : (t.later n).wake = t.wake.later n := by
  simp only [State.wake, State.later_run]
  split <;> rfl

theorem State.enterInterrupt_later (n : Nat) (t : State) (v : Word) :
    (t.later n).enterInterrupt v = (t.enterInterrupt v).later n :=
  congrArg (State.setAck · (some v))
    (State.addClk_later ((((t.push16 t.pc).setIme false).setImeSched false).setPc v) n t.params.intCycles)

theorem State.poll_later (n : Nat) (t : State) (q : Option Word) : (t.later n).poll q = (t.poll q).later n := by
  cases q with
  | none => rfl
  | some v =>
    simp only [State.poll, State.later_ime, State.wake_later, State.enterInterrupt_later, State.ite_later]

theorem State.pollUnlessStopped_later (n : Nat) (t : State) (q : Option Word) :
    (t.later n).pollUnlessStopped q = (t.pollUnlessStopped q).later n := by
  simp only [State.pollUnlessStopped, State.later_run, State.poll_later]
  split <;> rfl

/-- The reported cycles are a difference of two clocks that are later by the same amount (R253). -/
theorem State.finish_later (n : Nat) (s t : State) : (s.later n).finish (t.later n) = (s.finish t).later n := by
  simp only [State.finish, State.later_run, State.later_imeSched, State.later_irqSample, State.commitEi_later,
    State.pollUnlessStopped_later, State.later_clk, Nat.add_sub_add_left]
  split <;> rfl

theorem State.executingStep_later (n : Nat) (s : State) : (s.later n).executingStep = laterAnswer n s.executingStep := by
  unfold State.executingStep
  rw [State.execute_later]
  cases s.execute with
  | next t => exact congrArg Host.Outcome.next (s.finish_later n t)
  | fault f => rfl
  | refused r => rfl

theorem State.stepWith_later (n : Nat) (s : State) (single : Bool) :
    (s.later n).stepWith single = laterAnswer n (s.stepWith single) := by
  have hlive : (s.later n).live = s.live := rfl
  have hbreaks : (s.later n).breaks = s.breaks := rfl
  simp only [State.stepWith, hlive, hbreaks, State.later_dbgMode, State.executingStep_later, apply_ite (laterAnswer n)]
  rfl

/-- The host acts on the debug unit alone (R290). -/
theorem State.hostAct_later (n : Nat) (s : State) (c : HostCmd) : (s.later n).hostAct c = (s.hostAct c).later n := by
  simp only [State.hostAct, State.later_exited, State.later_dbgMode, State.ite_later]
  refine if_congr Iff.rfl rfl ?_
  cases s.dbgMode <;> cases c <;> rfl

theorem State.afterHost_later (n : Nat) (s : State) : (s.later n).afterHost = s.afterHost.later n :=
  State.hostAct_later n (s.setHostIn s.hostIn.tail) s.hostCmd

theorem step_later (n : Nat) (s : State) : step (s.later n) = laterAnswer n (step s) := by
  show ((s.later n).afterHost.setAck none).stepWith s.single = laterAnswer n ((s.afterHost.setAck none).stepWith s.single)
  rw [State.afterHost_later]
  exact State.stepWith_later n (s.afterHost.setAck none) s.single

/-! ## The run -/

/-- The same record, its final state with a later clock. -/
def RunRecord.later (n : Nat) (r : RunRecord) : RunRecord := { r with final := r.final.later n }

/-- What a step puts out is read off the trace, the acknowledge and the report. -/
theorem RunRecord.after_later (n : Nat) (s t : State) (r : RunRecord) :
    (r.later n).after (s.later n) (t.later n) = (r.after s t).later n := rfl

theorem State.record_later (n k : Nat) (s : State) : State.record k (s.later n) = (State.record k s).later n := by
  induction k generalizing s with
  | zero => rfl
  | succ k ih =>
    simp only [State.record, step_later]
    cases step s with
    | next t => simp only [laterAnswer_next, ih, RunRecord.after_later]
    | fault f => rfl
    | refused r => rfl

/-- A state whose clock reads `n` more. -/
theorem State.with_clk_add (s : State) (n : Nat) : { s with clk := s.clk + n } = s.later n :=
  congrArg s.setClk (Nat.add_comm s.clk n)

/-- Settles O48: the step and, by induction on its length, the record of a run commute with a later clock. -/
theorem stepIgnoresClock : Obligations.StepIgnoresClock := by
  simp only [Obligations.StepIgnoresClock, State.with_clk_add]
  refine ⟨fun s n => ?_, fun s n k => State.record_later n k s⟩
  rw [step_later]
  cases step s <;> rfl

end Sys2Proof.Machine
end

section
/-! SUPPORT. The statements of 30_encoding.md: decoding an encoding, encoding a decoding, lengths, the undefined
bytes, the disassembler. -/

namespace Sys2Proof.Machine

/-! ## Lengths -/

/-- Every instruction's encoding has the bytes of its length, one, two or three (R72, R85). -/
theorem encoding_statement (i : Instr) : Laws.Encoding.Statement i := by
  cases i <;> exact ⟨rfl, Nat.le_of_ble_eq_true rfl, Nat.le_of_ble_eq_true rfl⟩

/-- The instructions without a descriptor are the undefined bytes (R76). -/
theorem desc_eq_none_iff (i : Instr) : i.desc = none ↔ ∃ b, i = .illegal b := by
  cases i with
  | illegal b => exact ⟨fun _ => ⟨b, rfl⟩, fun _ => rfl⟩
  | _ => exact ⟨nofun, nofun⟩

/-- The length of an instruction is that of its effect's rule. -/
theorem length_instr (e : Effect) : e.instr.length = Effect.bytes e := by
  unfold Instr.length
  split
  · next d hd => exact (desc_effect e d hd).1
  · next hd =>
    obtain ⟨b, hb⟩ := (desc_eq_none_iff e.instr).1 hd
    rw [← effect_instr e, hb]
    rfl

theorem illegal_wf_iff (b : Byte) : (Instr.illegal b).wf = true ↔ b ∈ undefinedBytes := List.elem_iff

/-- The descriptor's length is 2 after the escape byte and else told by the operand rule (R72, R79). -/
theorem desc_length_rule (i : Instr) (d : Descriptor) (h : i.desc = some d) :
    d.length = if (encode i).head? = some escapeByte then 2 else if d.operand = .imm8 then 2
      else if d.operand = .imm16 then 3 else 1 := by
  cases i with
  | illegal b => cases h
  | _ => cases h; rfl

/-! ## Decoding an encoding -/

/-- An undefined byte decodes to `ILLEGAL` with that byte, whatever follows (R76). -/
theorem decodeBytes_undefined {b : Byte} (h : b ∈ undefinedBytes) (b1 b2 : Byte) :
    decodeBytes b b1 b2 = .illegal b := by
  simp only [undefinedBytes, List.mem_cons, List.not_mem_nil, or_false] at h
  obtain rfl | rfl | rfl | rfl | rfl | rfl | rfl | rfl | rfl | rfl | rfl := h <;> rfl

/-- Three bytes that start with the bytes of an instruction decode to it.  The opcode of each row decodes by
computation; a 16-bit operand is split into its halves and joined again (R74). -/
theorem decodeBytes_of_prefix {i : Instr} (hwf : i.wf = true) {b0 b1 b2 : Byte} (h : encode i <+: [b0, b1, b2]) :
    decodeBytes b0 b1 b2 = i := by
  obtain ⟨rest, hl⟩ := h
  cases i with
  | illegal b => cases hl; exact decodeBytes_undefined ((illegal_wf_iff _).1 hwf) b1 b2
  | ldBcD16 w => cases hl; exact congrArg Instr.ldBcD16 (joinBytes_hi_lo w)
  | ldDeD16 w => cases hl; exact congrArg Instr.ldDeD16 (joinBytes_hi_lo w)
  | ldHlD16 w => cases hl; exact congrArg Instr.ldHlD16 (joinBytes_hi_lo w)
  | ldSpD16 w => cases hl; exact congrArg Instr.ldSpD16 (joinBytes_hi_lo w)
  | ldAtA16Sp w => cases hl; exact congrArg Instr.ldAtA16Sp (joinBytes_hi_lo w)
  | ldAtA16A w => cases hl; exact congrArg Instr.ldAtA16A (joinBytes_hi_lo w)
  | ldAAtA16 w => cases hl; exact congrArg Instr.ldAAtA16 (joinBytes_hi_lo w)
  | jpA16 w => cases hl; exact congrArg Instr.jpA16 (joinBytes_hi_lo w)
  | jpNzA16 w => cases hl; exact congrArg Instr.jpNzA16 (joinBytes_hi_lo w)
  | jpZA16 w => cases hl; exact congrArg Instr.jpZA16 (joinBytes_hi_lo w)
  | jpNcA16 w => cases hl; exact congrArg Instr.jpNcA16 (joinBytes_hi_lo w)
  | jpCA16 w => cases hl; exact congrArg Instr.jpCA16 (joinBytes_hi_lo w)
  | callA16 w => cases hl; exact congrArg Instr.callA16 (joinBytes_hi_lo w)
  | callNzA16 w => cases hl; exact congrArg Instr.callNzA16 (joinBytes_hi_lo w)
  | callZA16 w => cases hl; exact congrArg Instr.callZA16 (joinBytes_hi_lo w)
  | callNcA16 w => cases hl; exact congrArg Instr.callNcA16 (joinBytes_hi_lo w)
  | callCA16 w => cases hl; exact congrArg Instr.callCA16 (joinBytes_hi_lo w)
  | _ => cases hl; rfl

/-- The three bytes `decode` looks at: those of the list, with zeros where it ends. -/
theorem fetched_eq_take (b0 : Byte) (tl : List Byte) :
    [b0, tl.getD 0 0, tl.getD 1 0] = (b0 :: tl ++ [0, 0]).take 3 := by
  match tl with
  | [] => rfl
  | [_] => rfl
  | _ :: _ :: _ => rfl

/-- A list of bytes that holds the whole of the instruction at its head decodes to it and what follows. -/
theorem decode_cons {b0 : Byte} {tl : List Byte} {i : Instr} (hi : decodeBytes b0 (tl.getD 0 0) (tl.getD 1 0) = i)
    (hle : i.length ≤ (b0 :: tl).length) : decode (b0 :: tl) = .ok (i, (b0 :: tl).drop i.length) := by
  obtain ⟨k, hk⟩ : ∃ k, i.length = k + 1 := Nat.exists_eq_add_one.2 (encoding_statement i).2.1
  have hfit : ¬ tl.length + 1 < k + 1 := Nat.not_lt.2 (hk ▸ hle)
  simp only [decode, hi, hk, if_neg hfit]
  rfl

/-- Settles O1: the bytes decode to the instruction, and dropping as many as its length leaves what follows. -/
theorem decodeOfEncode : Obligations.DecodeOfEncode := by
  intro i rest hwf
  obtain ⟨hlen, hpos, hthree⟩ := encoding_statement i
  obtain ⟨b0, tl, hl⟩ : ∃ b0 tl, encode i ++ rest = b0 :: tl :=
    List.exists_cons_of_length_pos (by rw [List.length_append]; omega)
  have hpre : encode i <+: [b0, tl.getD 0 0, tl.getD 1 0] := by
    rw [fetched_eq_take, ← hl, List.append_assoc]
    exact List.prefix_take_iff.2 ⟨List.prefix_append _ _, hlen ▸ hthree⟩
  have hle : i.length ≤ (b0 :: tl).length := by rw [← hl, List.length_append]; omega
  rw [hl, decode_cons (decodeBytes_of_prefix hwf hpre) hle, ← hl, ← hlen, List.drop_left]

/-! ## Encoding a decoding

The opcode byte is put together from its fields x, y, z (R73), and each table is read row by row. -/

/-- The byte with field x in bits 7 and 6, y in bits 5 to 3 and z in bits 2 to 0 (R73). -/
def opcodeByte (x : Nat) (y z : Idx8) : Byte := BitVec.ofNat 8 (64 * x + 8 * y.value + z.value)

theorem Idx8.value_ofBits (n : Nat) : (Idx8.ofBits n).value = n % 8 := by
  have hlt : n % 8 < 8 := Nat.mod_lt n (by decide)
  unfold Idx8.ofBits
  interval_cases n % 8 <;> rfl

/-- A byte is made of its fields (R73). -/
theorem opcodeByte_fields (b : Byte) : opcodeByte (b.toNat / 64) (fieldY b) (fieldZ b) = b := by
  apply BitVec.eq_of_toNat_eq
  have hb := b.isLt
  simp only [opcodeByte, fieldY, fieldZ, Idx8.value_ofBits, BitVec.toNat_ofNat]
  omega

/-- The instruction of an effect is in the table, and its encoding is the first of three bytes, as many as its
length. -/
def Effect.EncodesTo (e : Effect) (b0 b1 b2 : Byte) : Prop :=
  e.instr.wf = true ∧ encode e.instr = [b0, b1, b2].take e.instr.length

/-- The primary table, x = 0 (R75). -/
theorem primary0_encodesTo (y z : Idx8) (w : Word) :
    Effect.EncodesTo (primary0 y z (loByte w) w) (opcodeByte 0 y z) (loByte w) (hiByte w) := by
  cases y <;> cases z <;> exact ⟨rfl, rfl⟩

/-- The primary table, x = 1 (R75). -/
theorem loadEffect_encodesTo (y z : Idx8) (b1 b2 : Byte) :
    Effect.EncodesTo (loadEffect (selOperand y) (selOperand z)) (opcodeByte 1 y z) b1 b2 := by
  cases y <;> cases z <;> exact ⟨rfl, rfl⟩

/-- The primary table, x = 2 (R75). -/
theorem aluEffect_encodesTo (y z : Idx8) (b1 b2 : Byte) :
    Effect.EncodesTo (aluEffect (selAlu y) (selOperand z)) (opcodeByte 2 y z) b1 b2 := by
  cases y <;> cases z <;> exact ⟨rfl, rfl⟩

/-- The primary table, x = 3, outside the escape byte's row y = 1, z = 3 (R75, R77). -/
theorem primary3_encodesTo (y z : Idx8) (w : Word) (hesc : opcodeByte 3 y z ≠ escapeByte) :
    Effect.EncodesTo (primary3 (opcodeByte 3 y z) y z (loByte w) w) (opcodeByte 3 y z) (loByte w) (hiByte w) := by
  cases z with
  | i3 =>
    cases y with
    | i1 => exact absurd rfl hesc
    | _ => exact ⟨rfl, rfl⟩
  | _ => cases y <;> exact ⟨rfl, rfl⟩

/-- The extended table (R78). -/
theorem extended_encodesTo (b1 b2 : Byte) : Effect.EncodesTo (extended b1) escapeByte b1 b2 := by
  have hb : opcodeByte (b1.toNat / 64) (fieldY b1) (fieldZ b1) = b1 := opcodeByte_fields b1
  have hx : b1.toNat / 64 < 4 := Nat.div_lt_of_lt_mul b1.isLt
  unfold extended
  generalize b1.toNat / 64 = x, fieldY b1 = y, fieldZ b1 = z at hb hx ⊢
  subst hb
  interval_cases x <;> cases y <;> cases z <;> exact ⟨rfl, rfl⟩

/-- Every opcode byte reads its row of one of the five tables. -/
theorem decodeEffect_encodesTo (b0 b1 b2 : Byte) : Effect.EncodesTo (decodeEffect b0 b1 b2) b0 b1 b2 := by
  have hb : opcodeByte (b0.toNat / 64) (fieldY b0) (fieldZ b0) = b0 := opcodeByte_fields b0
  have hlt : b0.toNat / 64 < 4 := Nat.div_lt_of_lt_mul b0.isLt
  unfold decodeEffect
  split
  · next hesc => exact hesc ▸ extended_encodesTo b1 b2
  · next hesc =>
    split
    · next hx =>
      rw [hx] at hb
      simpa only [hb, loByte_join, hiByte_join] using primary0_encodesTo (fieldY b0) (fieldZ b0) (joinBytes b2 b1)
    · next hx =>
      rw [hx] at hb
      simpa only [hb] using loadEffect_encodesTo (fieldY b0) (fieldZ b0) b1 b2
    · next hx =>
      rw [hx] at hb
      simpa only [hb] using aluEffect_encodesTo (fieldY b0) (fieldZ b0) b1 b2
    · next h0 h1 h2 =>
      rw [imp_false] at h0 h1 h2
      have hx : b0.toNat / 64 = 3 := by omega
      rw [hx] at hb
      simpa only [hb, loByte_join, hiByte_join] using
        primary3_encodesTo (fieldY b0) (fieldZ b0) (joinBytes b2 b1) (hb.symm ▸ hesc)

/-- Settles O2: the effect that three bytes decode to encodes to the first of them. -/
theorem encodeOfDecode : Obligations.EncodeOfDecode := decodeEffect_encodesTo

/-- The first byte of a decoded instruction's encoding is the first byte decoded. -/
theorem encode_decodeBytes_head (b0 b1 b2 : Byte) : (encode (decodeBytes b0 b1 b2)).head? = some b0 := by
  obtain ⟨k, hk⟩ := Nat.exists_eq_add_one.2 (encoding_statement (decodeBytes b0 b1 b2)).2.1
  rw [(encodeOfDecode b0 b1 b2).2, hk]
  rfl

/-! ## The length by the first byte -/

theorem primary0_bytes (y z : Idx8) (n n' : Byte) (w w' : Word) :
    Effect.bytes (primary0 y z n w) = Effect.bytes (primary0 y z n' w') := by
  cases y <;> cases z <;> rfl

theorem primary3_bytes (b0 : Byte) (y z : Idx8) (n n' : Byte) (w w' : Word) :
    Effect.bytes (primary3 b0 y z n w) = Effect.bytes (primary3 b0 y z n' w') := by
  cases y <;> cases z <;> rfl

theorem extended_bytes (b1 : Byte) : Effect.bytes (extended b1) = 2 := by
  unfold extended
  split <;> rfl

/-- The bytes after the first change operands, not the length (R72). -/
theorem decodeEffect_bytes (b0 b1 b2 c1 c2 : Byte) :
    Effect.bytes (decodeEffect b0 c1 c2) = Effect.bytes (decodeEffect b0 b1 b2) := by
  unfold decodeEffect
  split
  · rw [extended_bytes, extended_bytes]
  · split
    · exact primary0_bytes _ _ _ _ _ _
    · rfl
    · rfl
    · exact primary3_bytes _ _ _ _ _ _ _

theorem length_decodeBytes (b0 b1 b2 c1 c2 : Byte) :
    (decodeBytes b0 c1 c2).length = (decodeBytes b0 b1 b2).length := by
  simp only [decodeBytes, length_instr, decodeEffect_bytes b0 b1 b2 c1 c2]

/-- Settles O4: the later bytes are operands, and the rule of the descriptors reads the byte decoded. -/
theorem lengthFromFirstByte : Obligations.LengthFromFirstByte := by
  intro b0 b1 b2
  refine ⟨length_decodeBytes b0 b1 b2, ?_⟩
  split
  · next d hd =>
    rw [desc_length_rule (decodeBytes b0 b1 b2) d hd, encode_decodeBytes_head]
    simp only [Option.some.injEq, escapeByte]
  · next hd => simp only [Instr.length, hd]

/-! ## The undefined bytes -/

/-- Exactly the undefined bytes decode to an instruction without a descriptor (R76). -/
theorem decodeBytes_desc_eq_none_iff (b0 b1 b2 : Byte) : (decodeBytes b0 b1 b2).desc = none ↔ b0 ∈ undefinedBytes := by
  rw [desc_eq_none_iff]
  constructor
  · rintro ⟨b, hb⟩
    have hhead := encode_decodeBytes_head b0 b1 b2
    have hwf := (encodeOfDecode b0 b1 b2).1
    rw [hb] at hhead hwf
    cases hhead
    exact (illegal_wf_iff b0).1 hwf
  · exact fun h => ⟨b0, decodeBytes_undefined h b1 b2⟩

/-- Without a waiting host action nothing happens before the step. -/
theorem State.afterHost_of_quiet {s : State} (h : s.hostIn = .quiet) : s.afterHost = s := by
  have hset : s.setHostIn s.hostIn.tail = s := by rw [h, Feed.tail_quiet, ← h]; rfl
  have hcmd : s.hostCmd = .noop := by rw [State.hostCmd, h, Feed.head_quiet]
  rw [State.afterHost, hset, hcmd, State.hostAct]
  split
  · rfl
  · split <;> rfl

/-- The step of a machine about to execute is its instruction part and what follows (R252). -/
theorem Executing.step_eq {s : State} (h : Executing s) : step s = (s.setAck none).executingStep := by
  obtain ⟨hhost, hexit, hfree, hrun, hbreak⟩ := h
  simp [step, machineStep, State.afterHost_of_quiet hhost, State.stepWith, State.live, State.breaks, hexit, hfree, hrun,
    hbreak]

/-- Executing an undefined byte raises the fault and changes nothing else (R264). -/
theorem exec_illegal (b : Byte) (s : State) : exec (.illegal b) s = .next (s.raise (.unimplementedOpcode b s.pc)) := rfl

/-- A fault ends the step at once (R250). -/
theorem State.finish_raise (s t : State) (f : Fault) :
    s.finish (t.raise f) = (t.raise f).dropSample.report (.fault f) 0 := rfl

/-- Settles O5: the byte decodes to `ILLEGAL`, whose step is the raised fault and its report. -/
theorem undefinedByteFaults : Obligations.UndefinedByteFaults := by
  refine ⟨decodeBytes_desc_eq_none_iff, exec_illegal, fun s hs hd => ?_⟩
  have hdec : decodeAt s.mem s.pc = .illegal (s.readByte s.pc) :=
    decodeBytes_undefined ((decodeBytes_desc_eq_none_iff _ _ _).1 hd) _ _
  have hexec : (s.setAck none).execute = exec (.illegal (s.readByte s.pc)) (s.setAck none) :=
    hdec ▸ State.execute_running (s := s.setAck none) hs.running
  rw [hs.step_eq, State.executingStep, hexec, exec_illegal]
  exact congrArg Host.Outcome.next (State.finish_raise _ _ _)

/-! ## The disassembler -/

theorem disasm_of_desc {m : Memory} {a : Word} {d : Descriptor} (h : (decodeAt m a).desc = some d) :
    disasm m a = ⟨a, d.mnemonic,
      (List.range (d.length - 1)).map fun k => m.read (a + BitVec.ofNat 16 (k + 1)).toNat, d.length⟩ := by
  simp only [disasm, h]

theorem disasm_of_undefined {m : Memory} {a : Word} (h : (decodeAt m a).desc = none) :
    disasm m a = ⟨a, "ILLEGAL", [], 1⟩ := by
  simp only [disasm, h]

theorem desc_length_pos {i : Instr} {d : Descriptor} (h : i.desc = some d) : 0 < d.length := by
  have hpos := (encoding_statement i).2.1
  simp only [Instr.length, h] at hpos
  exact hpos

theorem disassemble_length (m : Memory) (a : Word) (n : Nat) : (disassemble m a n).length = n := by
  induction n generalizing a with
  | zero => rfl
  | succ n ih => rw [disassemble, List.length_cons, ih]

/-- A longer listing goes on where the cursor stands after the shorter one (R294). -/
theorem disassemble_add (m : Memory) (a : Word) (n k : Nat) :
    disassemble m a (n + k) =
      disassemble m a n ++ disassemble m (a + BitVec.ofNat 16 ((disassemble m a n).map (·.length)).sum) k := by
  induction n generalizing a with
  | zero => simp [disassemble]
  | succ n ih =>
    rw [Nat.add_right_comm, disassemble, ih]
    simp only [disassemble, List.map_cons, List.sum_cons, List.cons_append, BitVec.ofNat_add, BitVec.add_assoc]

/-- Settles O6: an entry is read off the descriptor of `decodeAt`, which the step executes; a listing is linear by
induction on its length. -/
theorem disassemblerAgrees : Obligations.DisassemblerAgrees := by
  refine ⟨fun s a => ?_, fun _ => rfl, fun _ _ => rfl,
    fun m a n k => ⟨disassemble_length m a n, disassemble_add m a n k⟩⟩
  split
  · next d hd =>
    have hpos : 0 < d.length := desc_length_pos hd
    rw [disasm_of_desc hd]
    refine ⟨rfl, rfl, rfl, ?_, fun k hk => ?_⟩
    · simp only [List.length_map, List.length_range]
      omega
    · have hrange : k < d.length - 1 := by omega
      simp only [List.getElem?_map, List.getElem?_range hrange, Option.map_some, State.readByte]
  · next hd => exact disasm_of_undefined hd

/-- Settles O3: each word is decoded field by field. -/
theorem specWordsDecode : Obligations.SpecWordsDecode :=
  ⟨rfl, rfl, rfl, rfl, rfl, rfl, rfl, rfl, rfl, rfl, rfl⟩

end Sys2Proof.Machine
end

section
/-! SUPPORT. The statements of 40_load8.md: the loads and stores of one byte, and those that step `HL`.  The frame of
an instruction is built up along the updates that its `_next` lemma names. -/

namespace Sys2Proof.Machine

/-! ## The frame, one update at a time -/

section
variable {rs : List Reg} {evs : List WriteEvent} {s t : State}

theorem Frame.refl (s : State) : Frame [] [] s s :=
  ⟨fun _ _ => rfl, ⟨fun _ _ => rfl, rfl⟩, ⟨rfl, rfl, rfl⟩, ⟨rfl, rfl, rfl, rfl, rfl, rfl, rfl, rfl, rfl⟩⟩

theorem Frame.advance (h : Frame rs evs s t) (n : Nat) : Frame rs evs s (t.advance n) :=
  ⟨h.regs, { h.stores with }, { h.control with }, { h.engine with }⟩

theorem Frame.addClk (h : Frame rs evs s t) (n : Nat) : Frame rs evs s (t.addClk n) :=
  ⟨h.regs, { h.stores with }, { h.control with }, { h.engine with }⟩

theorem Frame.setReg (h : Frame rs evs s t) (r : Reg) (v : Byte) : Frame (rs ++ [r]) evs s (t.setReg r v) where
  regs q hq := by
    obtain ⟨hrs, hr⟩ := not_or.1 (mt List.mem_append.2 hq)
    rw [State.setReg_reg_other t r q v (List.ne_of_not_mem_cons hr), h.regs q hrs]
  stores := { h.stores with }
  control := { h.control with }
  engine := { h.engine with }

theorem Frame.setPairHl (h : Frame rs evs s t) (v : Word) : Frame (rs ++ [.h, .l]) evs s (t.setPair .hl v) where
  regs q hq := by
    obtain ⟨hrs, hhl⟩ := not_or.1 (mt List.mem_append.2 hq)
    rw [t.setPair_regsKept .hl v q hhl, h.regs q hrs]
  stores := { h.stores with }
  control := { h.control with }
  engine := { h.engine with }

theorem Frame.writeByte (h : Frame rs evs s t) (a : Word) (v : Byte) :
    Frame rs (event a v :: evs) s (t.writeByte a v) where
  regs := h.regs
  stores.bytes b hb := by
    have hne : b ≠ a := List.ne_of_not_mem_cons hb
    have hevs : b ∉ evs.map (·.address) := List.not_mem_of_not_mem_cons hb
    rw [State.readByte_writeByte, if_neg hne, h.stores.bytes b hevs]
  stores.trace := congrArg (event a v :: ·) h.stores.trace
  control := { h.control with }
  engine := { h.engine with }

end

/-! ## The four shapes of a byte access -/

section
variable {i : Instr} {s : State} {n c : Nat} {r : Reg} {v : Byte} {a w : Word}

/-- A load of one register. -/
theorem load_spec (h : exec i s = .next (((s.advance n).setReg r v).addClk c)) :
    ∃ t, exec i s = .next t ∧ t.reg r = v ∧ Retired n c s t ∧ Frame [r] [] s t ∧ t.flags = s.flags ∧ t.sp = s.sp :=
  ⟨_, h, State.setReg_reg_same (s.advance n) r v, ⟨rfl, rfl⟩, (((Frame.refl s).advance n).setReg r v).addClk c, rfl, rfl⟩

/-- A store of one byte. -/
theorem store_spec (h : exec i s = .next (((s.advance n).writeByte a v).addClk c)) :
    ∃ t, exec i s = .next t ∧ t.readByte a = v ∧ Retired n c s t ∧ Frame [] [event a v] s t ∧
      t.flags = s.flags ∧ t.sp = s.sp :=
  ⟨_, h, Memory.read_write_same s.mem a.toNat v, ⟨rfl, rfl⟩, (((Frame.refl s).advance n).writeByte a v).addClk c,
    rfl, rfl⟩

/-- A load of `A` that then sets `HL`, which leaves `A` as loaded. -/
theorem loadSettingHl_spec (h : exec i s = .next ((((s.advance n).setReg .a v).setPair .hl w).addClk c)) :
    ∃ t, exec i s = .next t ∧ t.reg .a = v ∧ t.pair .hl = w ∧ Retired n c s t ∧ Frame [.a, .h, .l] [] s t ∧
      t.flags = s.flags ∧ t.sp = s.sp :=
  ⟨_, h, State.setReg_reg_same (s.advance n) .a v, State.pair_setPair_same ((s.advance n).setReg .a v) .hl w,
    ⟨rfl, rfl⟩, ((((Frame.refl s).advance n).setReg .a v).setPairHl w).addClk c, rfl, rfl⟩

/-- A store that then sets `HL`, which leaves the byte as stored. -/
theorem storeSettingHl_spec (h : exec i s = .next ((((s.advance n).writeByte a v).setPair .hl w).addClk c)) :
    ∃ t, exec i s = .next t ∧ t.readByte a = v ∧ t.pair .hl = w ∧ Retired n c s t ∧
      Frame [.h, .l] [event a v] s t ∧ t.flags = s.flags ∧ t.sp = s.sp :=
  ⟨_, h, Memory.read_write_same s.mem a.toNat v, State.pair_setPair_same ((s.advance n).writeByte a v) .hl w,
    ⟨rfl, rfl⟩, ((((Frame.refl s).advance n).writeByte a v).setPairHl w).addClk c, rfl, rfl⟩

end

/-! ## Encodings and the high page -/

theorem encode_ldRegRegOf (r q : Reg) :
    encode (Instr.ldRegRegOf r q) = [opcode (0x40 + 8 * regCode r + regCode q)] := by
  cases r <;> cases q <;> rfl

theorem encode_ldRegImmOf (r : Reg) (n : Byte) :
    encode (Instr.ldRegImmOf r n) = [opcode (0x06 + 8 * regCode r), n] := by
  cases r <;> rfl

theorem encode_ldRegAtHlOf (r : Reg) : encode (Instr.ldRegAtHlOf r) = [opcode (0x46 + 8 * regCode r)] := by
  cases r <;> rfl

theorem encode_ldAtHlRegOf (q : Reg) : encode (Instr.ldAtHlRegOf q) = [opcode (0x70 + regCode q)] := by
  cases q <;> rfl

/-- The high page's byte is unsigned, and the sum has no carry (R74, R112, R114). -/
theorem highPage_eq_add (n : Byte) : highPage n = 0xFF00 + n.setWidth 16 := by
  apply BitVec.eq_of_toNat_eq
  have hn := n.isLt
  simp only [highPage, joinBytes_toNat, BitVec.toNat_add, BitVec.toNat_setWidth, BitVec.reduceToNat]
  omega

theorem State.addrC_eq_add (s : State) : s.addrC = 0xFF00 + (s.reg .c).setWidth 16 := highPage_eq_add s.regs.c

/-! ## The statements -/

/-- Settles O12: each of the three is a load of one register. -/
theorem loadsOfRegisters : Obligations.LoadsOfRegisters :=
  fun r q n s => ⟨encode_ldRegRegOf r q, encode_ldRegImmOf r n, encode_ldRegAtHlOf r,
    load_spec ((exec_ldRegRegOf r q s).trans (runLdRegReg_next r q s)),
    load_spec ((exec_ldRegImmOf r n s).trans (runLdRegImm_next r n s)),
    load_spec ((exec_ldRegAtHlOf r s).trans (runLdRegAtHl_next r s))⟩

/-- Settles O13: each of the two is a store of one byte at `HL`. -/
theorem storesAtHl : Obligations.StoresAtHl :=
  fun q n s => ⟨encode_ldAtHlRegOf q, rfl,
    store_spec ((exec_ldAtHlRegOf q s).trans (runLdAtHlReg_next q s)),
    store_spec ((exec_ldAtHlImmOf n s).trans (runLdAtHlImm_next n s))⟩

/-- Settles O14: each of the five is a load of `A`; the high page's address is the sum of the statement. -/
theorem loadsOfAccumulator : Obligations.LoadsOfAccumulator :=
  fun w n s => ⟨rfl, rfl, rfl, rfl, rfl,
    load_spec ((exec_ldAccAtBcOf s).trans (runLdAccAtBc_next s)),
    load_spec ((exec_ldAccAtDeOf s).trans (runLdAccAtDe_next s)),
    load_spec ((exec_ldAccAtAbsOf w s).trans (runLdAccAtAbs_next w s)),
    load_spec ((exec_ldAccAtHighOf n s).trans (by rw [runLdAccAtHigh_next, highPage_eq_add])),
    load_spec ((exec_ldAccAtCOf s).trans (by rw [runLdAccAtC_next, State.addrC_eq_add]))⟩

/-- Settles O15: each of the five is a store of `A`; the high page's address is the sum of the statement. -/
theorem storesOfAccumulator : Obligations.StoresOfAccumulator :=
  fun w n s => ⟨rfl, rfl, rfl, rfl, rfl,
    store_spec ((exec_ldAtBcAccOf s).trans (runLdAtBcAcc_next s)),
    store_spec ((exec_ldAtDeAccOf s).trans (runLdAtDeAcc_next s)),
    store_spec ((exec_ldAtAbsAccOf w s).trans (runLdAtAbsAcc_next w s)),
    store_spec ((exec_ldAtHighAccOf n s).trans (by rw [runLdAtHighAcc_next, highPage_eq_add])),
    store_spec ((exec_ldAtCAccOf s).trans (by rw [runLdAtCAcc_next, State.addrC_eq_add]))⟩

/-- Settles O16: the access is at the old `HL`, which is stepped after it. -/
theorem postModifyingAccesses : Obligations.PostModifyingAccesses :=
  fun s => ⟨rfl, rfl, rfl, rfl,
    storeSettingHl_spec ((exec_ldAtHlIncAccOf s).trans (runLdAtHlIncAcc_next s)),
    loadSettingHl_spec ((exec_ldAccAtHlIncOf s).trans (runLdAccAtHlInc_next s)),
    storeSettingHl_spec ((exec_ldAtHlDecAccOf s).trans (runLdAtHlDecAcc_next s)),
    loadSettingHl_spec ((exec_ldAccAtHlDecOf s).trans (runLdAccAtHlDec_next s))⟩

end Sys2Proof.Machine
end

section
/-! SUPPORT. The statements of 41_load16_stack.md, and of 43_alu16.md R188: the loads of a pair and of `SP`, the store
of `SP`, `SP` plus a displacement, the pushes and the pops. -/

namespace Sys2Proof.Machine

/-! ## The words of the stack -/

/-- The higher slot of a push, counted from the old `SP` (R130). -/
theorem sub_two_add_one (a : Word) : a - 2 + 1 = a - 1 := by bv_omega

/-- The high byte of a pushed value is below the old `SP` (R130). -/
@[simp] theorem State.readByte_push16_high (s : State) (v : Word) : (s.push16 v).readByte (s.sp - 1) = hiByte v := by
  have hne : s.sp - 1 ≠ s.sp - 2 := by bv_omega
  rw [State.readByte_push16, if_neg hne, if_pos (sub_two_add_one s.sp).symm]

/-- The low byte of a pushed value is at the new `SP` (R130). -/
@[simp] theorem State.readByte_push16_low (s : State) (v : Word) : (s.push16 v).readByte (s.sp - 2) = loByte v := by
  rw [State.readByte_push16, if_pos rfl]

/-- The value popped: low byte at `SP`, high byte above it (R131). -/
theorem State.popValue_eq_join (s : State) : s.popValue = joinBytes (s.readByte (s.sp + 1)) (s.readByte s.sp) := rfl

theorem State.hiByte_popValue (s : State) : hiByte s.popValue = s.readByte (s.sp + 1) :=
  hiByte_join (s.readByte (s.sp + 1)) (s.readByte s.sp)

theorem State.loByte_popValue (s : State) : loByte s.popValue = s.readByte s.sp :=
  loByte_join (s.readByte (s.sp + 1)) (s.readByte s.sp)

/-- A pop after a push gives the value pushed, for every `SP` (R130, R131). -/
theorem State.popValue_push16 (s : State) (v : Word) : (s.push16 v).popValue = v := by
  rw [State.popValue_eq_join, State.push16_sp, sub_two_add_one, State.readByte_push16_high, State.readByte_push16_low,
    joinBytes_hi_lo]

/-- A pop after a push restores `SP` (R130, R131). -/
theorem State.popped_push16_sp (s : State) (v : Word) : (s.push16 v).popped.sp = s.sp := by
  rw [State.popped_sp, State.push16_sp, BitVec.sub_add_cancel]

theorem State.readByte_writeWord_low (s : State) (a v : Word) : (s.writeWord a v).readByte a = loByte v := by
  have hne : a ≠ a + 1 := by bv_omega
  rw [State.readByte_writeWord, if_neg hne, if_pos rfl]

theorem State.readByte_writeWord_high (s : State) (a v : Word) : (s.writeWord a v).readByte (a + 1) = hiByte v := by
  rw [State.readByte_writeWord, if_pos rfl]

@[simp] theorem State.hiByte_af (s : State) : hiByte s.af = s.reg .a := hiByte_join s.regs.a s.flags.toByte

@[simp] theorem State.loByte_af (s : State) : loByte s.af = s.flags.toByte := loByte_join s.regs.a s.flags.toByte

/-! ## Pairs and `SP` -/

theorem State.setPair_sp_of_ne {p : Pair} (hp : p ≠ .sp) (s : State) (v : Word) : (s.setPair p v).sp = s.sp := by
  cases p with
  | sp => exact absurd rfl hp
  | _ => rfl

theorem pairOf_ne_sp (p : StackPair) : pairOf p ≠ .sp := by
  cases p <;> exact nofun

/-- The sum of R135 and R188 is the signed one modulo 2^16. -/
theorem addSp_fst_eq_ofInt (sp : Word) (e : Byte) : (addSp sp e).1 = BitVec.ofInt 16 (sp.toNat + e.toInt) := by
  rw [BitVec.ofInt_add, BitVec.ofInt_natCast, BitVec.ofNat_toNat, BitVec.setWidth_eq]
  rfl

theorem addSp_fst_toNat (sp : Word) (e : Byte) :
    ((addSp sp e).1.toNat : Int) = ((sp.toNat : Int) + e.toInt) % 65536 := by
  rw [addSp_fst_eq_ofInt, BitVec.toNat_ofInt]
  exact Int.toNat_of_nonneg (Int.emod_nonneg _ (by decide))

/-! ## The frame, one update at a time -/

section
variable {rs : List Reg} {evs : List WriteEvent} {s t : State}

theorem Frame.setSp (h : Frame rs evs s t) (x : Word) : Frame rs evs s (t.setSp x) :=
  ⟨h.regs, { h.stores with }, { h.control with }, { h.engine with }⟩

theorem Frame.setFlags (h : Frame rs evs s t) (x : Flags) : Frame rs evs s (t.setFlags x) :=
  ⟨h.regs, { h.stores with }, { h.control with }, { h.engine with }⟩

theorem Frame.setPair (h : Frame rs evs s t) (p : Pair) (v : Word) : Frame (rs ++ pairRegs p) evs s (t.setPair p v) := by
  have hregs : RegsKeptExcept (rs ++ pairRegs p) s (t.setPair p v) := fun q hq => by
    obtain ⟨hrs, hp⟩ := not_or.1 (mt List.mem_append.2 hq)
    rw [t.setPair_regsKept p v q hp, h.regs q hrs]
  cases p <;> exact ⟨hregs, { h.stores with }, { h.control with }, { h.engine with }⟩

theorem Frame.setAf (h : Frame rs evs s t) (v : Word) : Frame (rs ++ [.a]) evs s (t.setAf v) :=
  (h.setReg .a (hiByte v)).setFlags (Flags.ofByte (loByte v))

theorem Frame.writeWord (h : Frame rs evs s t) (a v : Word) :
    Frame rs (event (a + 1) (hiByte v) :: event a (loByte v) :: evs) s (t.writeWord a v) :=
  (h.writeByte a (loByte v)).writeByte (a + 1) (hiByte v)

theorem Frame.push16 (h : Frame rs evs s t) (v : Word) :
    Frame rs (event (t.sp - 2) (loByte v) :: event (t.sp - 1) (hiByte v) :: evs) s (t.push16 v) :=
  sub_two_add_one t.sp ▸ ((h.setSp (t.sp - 2)).writeByte (t.sp - 2 + 1) (hiByte v)).writeByte (t.sp - 2) (loByte v)

theorem Frame.popped (h : Frame rs evs s t) : Frame rs evs s t.popped := h.setSp (t.sp + 2)

end

/-! ## The shapes of a pair load, a push and a pop -/

section
variable {i : Instr} {s : State} {n c : Nat} {p : Pair} {v : Word}

/-- A load of one pair, or of `SP`. -/
theorem loadPair_spec (h : exec i s = .next (((s.advance n).setPair p v).addClk c)) :
    ∃ t, exec i s = .next t ∧ t.pair p = v ∧ Retired n c s t ∧ Frame (pairRegs p) [] s t ∧ t.flags = s.flags ∧
      (p ≠ .sp → t.sp = s.sp) :=
  ⟨_, h, by simp, ⟨by simp, by simp⟩, (((Frame.refl s).advance n).setPair p v).addClk c, by simp,
    fun hp => State.setPair_sp_of_ne hp (s.advance n) v⟩

/-- A push of one word. -/
theorem push_spec (h : exec i s = .next (((s.advance n).push16 v).addClk c)) :
    ∃ t, exec i s = .next t ∧ t.sp = s.sp - 2 ∧ t.readByte (s.sp - 1) = hiByte v ∧ t.readByte (s.sp - 2) = loByte v ∧
      Retired n c s t ∧ t.flags = s.flags ∧ Frame [] [event (s.sp - 2) (loByte v), event (s.sp - 1) (hiByte v)] s t :=
  ⟨_, h, rfl, State.readByte_push16_high (s.advance n) v, State.readByte_push16_low (s.advance n) v, ⟨rfl, rfl⟩, rfl,
    (((Frame.refl s).advance n).push16 v).addClk c⟩

/-- A pop of one word into a pair other than `SP`. -/
theorem pop_spec (hp : p ≠ .sp) (h : exec i s = .next (((s.advance n).popped.setPair p v).addClk c)) :
    ∃ t, exec i s = .next t ∧ t.pair p = v ∧ t.sp = s.sp + 2 ∧ Retired n c s t ∧ Frame (pairRegs p) [] s t ∧
      t.flags = s.flags :=
  ⟨_, h, by simp, State.setPair_sp_of_ne hp (s.advance n).popped v, ⟨by simp, by simp⟩,
    (((Frame.refl s).advance n).popped.setPair p v).addClk c, by simp⟩

end

/-! ## Encodings -/

theorem encode_ldPairImmOf (p : Pair) (w : Word) :
    encode (Instr.ldPairImmOf p w) = [opcode (0x01 + 16 * pairCode p), loByte w, hiByte w] := by
  cases p <;> rfl

theorem encode_pushPairOf (p : StackPair) :
    encode (Instr.pushPairOf p) = [opcode (0xC5 + 16 * pairCode (pairOf p))] := by
  cases p <;> rfl

theorem encode_popPairOf (p : StackPair) :
    encode (Instr.popPairOf p) = [opcode (0xC1 + 16 * pairCode (pairOf p))] := by
  cases p <;> rfl

/-! ## The statements -/

/-- Settles O11: the two slots of a push, and the pop that reads them back. -/
theorem pushThenPop : Obligations.PushThenPop :=
  fun s v => ⟨s.push16_sp v, s.readByte_push16_high v, s.readByte_push16_low v, ((Frame.refl s).push16 v).stores,
    s.popValue_eq_join, rfl, s.popValue_push16 v, s.popped_push16_sp v, (s.push16 v).popped_mem⟩

/-- Settles O17: `LD SP,HL` has the frame of a write of `SP` alone. -/
theorem pairLoads : Obligations.PairLoads :=
  fun p w s => ⟨encode_ldPairImmOf p w, rfl,
    loadPair_spec ((exec_ldPairImmOf p w s).trans (runLdPairImm_next p w s)),
    ⟨_, (exec_ldSpFromHlOf s).trans (runLdSpFromHl_next s), rfl, ⟨rfl, rfl⟩,
      (((Frame.refl s).advance 1).setSp s.hl).addClk 8, rfl⟩⟩

/-- Settles O18: a 16-bit write, low byte first. -/
theorem storeOfStackPointer : Obligations.StoreOfStackPointer :=
  fun w s => ⟨rfl, _, (exec_ldAtAbsSpOf w s).trans (runLdAtAbsSp_next w s),
    (s.advance 3).readByte_writeWord_low w s.sp, (s.advance 3).readByte_writeWord_high w s.sp, ⟨rfl, rfl⟩,
    (((Frame.refl s).advance 3).writeWord w s.sp).addClk 20, rfl, rfl⟩

/-- Settles O19: both instructions take the sum and the flags of `addSp`. -/
theorem stackPointerOffset : Obligations.StackPointerOffset := by
  intro e s
  refine ⟨rfl, rfl,
    ⟨_, (exec_ldHlSpOffsetOf e s).trans (runLdHlSpOffset_next e s), ?_, rfl, ⟨rfl, rfl⟩, ?_, rfl⟩,
    ⟨_, (exec_addSpOffsetOf e s).trans (runAddSpOffset_next e s), addSp_fst_toNat s.sp e, rfl, ⟨rfl, rfl⟩, ?_⟩⟩
  · rw [State.addClk_pair, State.setFlags_pair, State.pair_setPair_same, addSp_fst_toNat]
  · exact ((((Frame.refl s).advance 2).setPair .hl (addSp s.sp e).1).setFlags (addSp s.sp e).2).addClk 12
  · exact ((((Frame.refl s).advance 2).setSp (addSp s.sp e).1).setFlags (addSp s.sp e).2).addClk 16

/-- Settles O20: `AF` is pushed as A and F, and popped with the mask of the flag byte. -/
theorem pushesAndPops : Obligations.PushesAndPops := by
  intro p s
  refine ⟨encode_pushPairOf p, rfl, encode_popPairOf p, rfl,
    push_spec ((exec_pushPairOf p s).trans (runPushPair_next p s)), ?_,
    pop_spec (pairOf_ne_sp p) ((exec_popPairOf p s).trans (runPopPair_next p s)),
    ⟨_, (exec_popAfOf s).trans (runPopAf_next s), ?_, ?_, rfl, ⟨rfl, rfl⟩,
      (((Frame.refl s).advance 1).popped.setAf s.popValue).addClk 12⟩⟩
  · rw [← s.hiByte_af, ← s.loByte_af]
    exact push_spec ((exec_pushAfOf s).trans (runPushAf_next s))
  · exact s.hiByte_popValue
  · exact s.loByte_popValue ▸ Flags.toByte_ofByte (loByte s.popValue)

end Sys2Proof.Machine
end

section
/-! SUPPORT. The statements of 42_alu8.md: the accumulator operations, `INC` and `DEC`, `DAA`, and the complements.
The rules of the two primitives `add8` and `sub8` stand as numbers; each instruction writes at most one byte, then
the flags. -/

namespace Sys2Proof.Machine

/-! ## The primitives as numbers -/

/-- A byte is zero exactly when its number is: how every Z of this family is computed (R145, R146). -/
theorem decide_byte_eq_zero (v : Byte) : decide (v = 0) = decide (v.toNat = 0) :=
  decide_eq_decide.2 BitVec.toNat_inj.symm

theorem add8_res_toNat (a b : Byte) (cin : Bool) :
    (add8 a b cin).res.toNat = (a.toNat + b.toNat + cin.toNat) % 256 :=
  BitVec.toNat_ofNat (a.toNat + b.toNat + cin.toNat) 8

/-- An addition's flags are those of the exact sum (R145). -/
theorem addFlags_add8 (a b : Byte) (cin : Bool) :
    addFlags (add8 a b cin) = ⟨decide ((a.toNat + b.toNat + cin.toNat) % 256 = 0), false,
      decide (a.toNat % 16 + b.toNat % 16 + cin.toNat > 15), decide (a.toNat + b.toNat + cin.toNat > 255)⟩ := by
  rw [← add8_res_toNat, ← decide_byte_eq_zero]
  rfl

/-- The exact difference, brought above zero by 512 so that operand and borrow are both taken off untruncated (R146). -/
theorem sub8_res_toNat (a b : Byte) (cin : Bool) :
    (sub8 a b cin).res.toNat = (a.toNat + 512 - b.toNat - cin.toNat) % 256 := by
  have hres : (sub8 a b cin).res.toNat = (((a.toNat : Int) - b.toNat - cin.toNat) % 256).toNat :=
    BitVec.toNat_ofInt _
  have hb := b.isLt
  have hc := cin.toNat_le
  omega

/-- A subtraction's flags are the borrows of the exact difference (R146). -/
theorem subFlags_sub8 (a b : Byte) (cin : Bool) :
    subFlags (sub8 a b cin) = ⟨decide ((a.toNat + 512 - b.toNat - cin.toNat) % 256 = 0), true,
      decide (a.toNat % 16 < b.toNat % 16 + cin.toNat), decide (a.toNat < b.toNat + cin.toNat)⟩ := by
  have hh : ((a.toNat % 16 : Nat) : Int) - (b.toNat % 16 : Nat) - cin.toNat < 0 ↔
      a.toNat % 16 < b.toNat % 16 + cin.toNat := by omega
  have hc : (a.toNat : Int) - b.toNat - cin.toNat < 0 ↔ a.toNat < b.toNat + cin.toNat := by omega
  rw [← sub8_res_toNat, ← decide_byte_eq_zero, ← decide_eq_decide.2 hh, ← decide_eq_decide.2 hc]
  rfl

/-- Without a borrow in, the difference is zero exactly for equal operands (R171). -/
theorem subFlags_compare (a b : Byte) : subFlags (sub8 a b false) =
    ⟨decide (a.toNat = b.toNat), true, decide (a.toNat % 16 < b.toNat % 16), decide (a.toNat < b.toNat)⟩ := by
  have ha := a.isLt
  have hb := b.isLt
  have hz : (a.toNat + 512 - b.toNat - 0) % 256 = 0 ↔ a.toNat = b.toNat := by omega
  rw [← decide_eq_decide.2 hz]
  exact subFlags_sub8 a b false

theorem add8_one_res (v : Byte) : (add8 v 1 false).res = v + 1 := by
  apply BitVec.eq_of_toNat_eq
  rw [add8_res_toNat, BitVec.toNat_add]
  rfl

theorem sub8_one_res (v : Byte) : (sub8 v 1 false).res = v - 1 := by
  apply BitVec.eq_of_toNat_eq
  rw [sub8_res_toNat, BitVec.toNat_sub, show (1 : Byte).toNat = 1 from rfl, Bool.toNat_false]
  omega

theorem incFlags_eq (v : Byte) (f : Flags) :
    incFlags v f = ⟨decide (v = 0xFF), false, decide (v.toNat % 16 = 15), f.c⟩ := by
  have hz : (add8 v 1 false).res = 0 ↔ v = 0xFF := by rw [add8_one_res]; bv_omega
  have hh : v.toNat % 16 + 1 + 0 > 15 ↔ v.toNat % 16 = 15 := by omega
  rw [← decide_eq_decide.2 hz, ← decide_eq_decide.2 hh]
  rfl

theorem decFlags_eq (v : Byte) (f : Flags) :
    decFlags v f = ⟨decide (v = 1), true, decide (v.toNat % 16 = 0), f.c⟩ := by
  have hz : (sub8 v 1 false).res = 0 ↔ v = 1 := by rw [sub8_one_res]; bv_omega
  have hh : ((v.toNat % 16 : Nat) : Int) - (1 : Nat) - (0 : Nat) < 0 ↔ v.toNat % 16 = 0 := by omega
  rw [← decide_eq_decide.2 hz, ← decide_eq_decide.2 hh]
  rfl

/-! ## The three shapes of an operation with flags -/

section
variable {i : Instr} {s : State} {n c : Nat} {r : Reg} {v : Byte} {a : Word} {f : Flags}

/-- One register and the flags are written. -/
theorem regWithFlags_spec (h : exec i s = .next ((((s.advance n).setReg r v).setFlags f).addClk c)) :
    ∃ t, exec i s = .next t ∧ t.reg r = v ∧ t.flags = f ∧ Retired n c s t ∧ Frame [r] [] s t ∧ t.sp = s.sp :=
  ⟨_, h, State.setReg_reg_same (s.advance n) r v, rfl, ⟨rfl, rfl⟩,
    (((Frame.refl s).advance n).setReg r v |>.setFlags f).addClk c, rfl⟩

/-- One byte of memory and the flags are written. -/
theorem storeWithFlags_spec (h : exec i s = .next ((((s.advance n).writeByte a v).setFlags f).addClk c)) :
    ∃ t, exec i s = .next t ∧ t.readByte a = v ∧ t.flags = f ∧ Retired n c s t ∧ Frame [] [event a v] s t ∧
      t.sp = s.sp :=
  ⟨_, h, Memory.read_write_same s.mem a.toNat v, rfl, ⟨rfl, rfl⟩,
    (((Frame.refl s).advance n).writeByte a v |>.setFlags f).addClk c, rfl⟩

/-- The flags alone are written. -/
theorem flags_spec (h : exec i s = .next (((s.advance n).setFlags f).addClk c)) :
    ∃ t, exec i s = .next t ∧ t.flags = f ∧ Retired n c s t ∧ Frame [] [] s t ∧ t.sp = s.sp :=
  ⟨_, h, rfl, ⟨rfl, rfl⟩, (((Frame.refl s).advance n).setFlags f).addClk c, rfl⟩

end

/-! ## The accumulator operations, for all operand forms at once -/

theorem encode_aluInstr (op : AluOp) (x : Source) : encode (aluInstr op x) = sourceBytes op x := by
  cases x with
  | reg r => cases op <;> cases r <;> rfl
  | atHl => cases op <;> rfl
  | imm n => cases op <;> rfl

theorem exec_aluInstr (op : AluOp) (x : Source) (s : State) :
    exec (aluInstr op x) s = .next (((s.advance (sourceLength x)).applyAcc
      (aluOp op (s.reg .a) (sourceByte s x) s.flags.c)).addClk (sourceCycles x)) := by
  cases x with
  | reg r => exact (exec_aluRegOf op r s).trans (runAluReg_next op r s)
  | atHl => exact (exec_aluAtHlOf op s).trans (runAluAtHl_next op s)
  | imm n => exact (exec_aluImmOf op n s).trans (runAluImm_next op n s)

/-- An operation with a result writes it to A, then the flags; `CP` is the one without (R149). -/
theorem aluInstr_spec {op : AluOp} {x : Source} {s : State} {v : Byte} {f : Flags}
    (h : aluOp op (s.reg .a) (sourceByte s x) s.flags.c = ⟨some v, f⟩) :
    ∃ t, exec (aluInstr op x) s = .next t ∧ t.reg .a = v ∧ t.flags = f ∧
      Retired (sourceLength x) (sourceCycles x) s t ∧ Frame [.a] [] s t ∧ t.sp = s.sp :=
  regWithFlags_spec (by rw [exec_aluInstr, h]; rfl)

/-- `ADC` is `ADD` with the old carry as carry in. -/
theorem aluOp_addition (withCarry : Bool) (a x : Byte) (carry : Bool) :
    aluOp (if withCarry then .adc else .add) a x carry =
      ⟨some (add8 a x (withCarry && carry)).res, addFlags (add8 a x (withCarry && carry))⟩ := by
  cases withCarry <;> rfl

/-- `SBC` is `SUB` with the old carry as borrow in. -/
theorem aluOp_subtraction (withCarry : Bool) (a x : Byte) (carry : Bool) :
    aluOp (if withCarry then .sbc else .sub) a x carry =
      ⟨some (sub8 a x (withCarry && carry)).res, subFlags (sub8 a x (withCarry && carry))⟩ := by
  cases withCarry <;> rfl

/-- Settles O21: every operand form writes A and the flags of one `add8`. -/
theorem additions : Obligations.Additions := by
  intro withCarry x s
  obtain ⟨t, hexec, ha, hf, hret, hframe, hsp⟩ :=
    aluInstr_spec (aluOp_addition withCarry (s.reg .a) (sourceByte s x) s.flags.c)
  exact ⟨encode_aluInstr _ x, t, hexec, ha ▸ add8_res_toNat _ _ _, hf.trans (addFlags_add8 _ _ _), hret, hframe, hsp⟩

/-- Settles O22: every operand form writes A and the flags of one `sub8`. -/
theorem subtractions : Obligations.Subtractions := by
  intro withCarry x s
  obtain ⟨t, hexec, ha, hf, hret, hframe, hsp⟩ :=
    aluInstr_spec (aluOp_subtraction withCarry (s.reg .a) (sourceByte s x) s.flags.c)
  exact ⟨encode_aluInstr _ x, t, hexec, ha ▸ sub8_res_toNat _ _ _, hf.trans (subFlags_sub8 _ _ _), hret, hframe, hsp⟩

/-- Settles O23: `CP` has the flags of a `sub8` without borrow, and no result to write. -/
theorem compares : Obligations.Compares := by
  intro x s
  exact ⟨encode_aluInstr .cp x, subFlags_compare (s.reg .a) (sourceByte s x) ▸ flags_spec (exec_aluInstr .cp x s)⟩

/-- Settles O24: the operation's row of `aluOp` is its result and its fixed flags. -/
theorem logicOperations : Obligations.LogicOperations :=
  fun x _ => ⟨fun op => encode_aluInstr op x, aluInstr_spec rfl, aluInstr_spec rfl, aluInstr_spec rfl⟩

/-! ## Increment and decrement -/

theorem encode_incRegOf (r : Reg) : encode (Instr.incRegOf r) = [opcode (0x04 + 8 * regCode r)] := by
  cases r <;> rfl

theorem encode_decRegOf (r : Reg) : encode (Instr.decRegOf r) = [opcode (0x05 + 8 * regCode r)] := by
  cases r <;> rfl

/-- Settles O25: the four are `add8` or `sub8` with 1, and take C from the old flags. -/
theorem incrementsAndDecrements : Obligations.IncrementsAndDecrements :=
  fun r s => ⟨encode_incRegOf r, rfl, encode_decRegOf r, rfl,
    regWithFlags_spec ((exec_incRegOf r s).trans (by rw [runIncReg_next, add8_one_res, incFlags_eq])),
    regWithFlags_spec ((exec_decRegOf r s).trans (by rw [runDecReg_next, sub8_one_res, decFlags_eq])),
    storeWithFlags_spec ((exec_incAtHlOf s).trans (by rw [runIncAtHl_next, add8_one_res, incFlags_eq]; rfl)),
    storeWithFlags_spec ((exec_decAtHlOf s).trans (by rw [runDecAtHl_next, sub8_one_res, decFlags_eq]; rfl))⟩

/-! ## Decimal adjustment -/

/-- The correction of the low digit (R178). -/
def daaLow (a : Nat) (f : Flags) : Nat := if f.h = true ∨ (f.n = false ∧ a % 16 > 9) then 6 else 0

/-- The correction of the high digit (R178). -/
def daaHigh (a : Nat) (f : Flags) : Nat := if f.c = true ∨ (f.n = false ∧ a > 0x99) then 0x60 else 0

/-- The corrected number, modulo 2^8 (R178). -/
def daaResult (a : Nat) (f : Flags) : Nat :=
  if f.n then (a + 256 - (daaLow a f + daaHigh a f)) % 256 else (a + daaLow a f + daaHigh a f) % 256

/-- The two corrections as one byte, as `daaOp` joins them. -/
def daaAdj (a : Byte) (f : Flags) : Byte :=
  (if f.h || (!f.n && decide (a.toNat % 16 > 9)) then 0x06 else 0) |||
    (if f.c || (!f.n && decide (a.toNat > 0x99)) then 0x60 else 0)

/-- The two corrections have no bit in common, so joining them adds them. -/
theorem corrections_or_toNat (low high : Bool) :
    ((if low then 0x06 else 0) ||| (if high then 0x60 else 0) : Byte).toNat =
      (if low then 6 else 0) + (if high then 0x60 else 0) := by
  cases low <;> cases high <;> rfl

theorem daaAdj_toNat (a : Byte) (f : Flags) : (daaAdj a f).toNat = daaLow a.toNat f + daaHigh a.toNat f := by
  rw [daaAdj, corrections_or_toNat]
  simp [daaLow, daaHigh]

theorem daaOp_fst (a : Byte) (f : Flags) : (daaOp a f).1 = if f.n then a - daaAdj a f else a + daaAdj a f := rfl

theorem daaOp_fst_toNat (a : Byte) (f : Flags) : (daaOp a f).1.toNat = daaResult a.toNat f := by
  have hadj := (daaAdj a f).isLt
  rw [daaOp_fst, daaResult]
  split
  · rw [BitVec.toNat_sub, ← daaAdj_toNat]
    omega
  · rw [BitVec.toNat_add, daaAdj_toNat, Nat.add_assoc]

theorem daaOp_snd (a : Byte) (f : Flags) :
    (daaOp a f).2 = ⟨decide (daaResult a.toNat f = 0), f.n, false, f.c || (!f.n && decide (a.toNat > 0x99))⟩ := by
  rw [← daaOp_fst_toNat, ← decide_byte_eq_zero]
  rfl

/-- Settles O26: `DAA` writes A and the flags of `daaOp`. -/
theorem decimalAdjust : Obligations.DecimalAdjust := by
  intro s
  obtain ⟨t, hexec, ha, hf, hret, hframe, hsp⟩ := regWithFlags_spec ((exec_daaOf s).trans (runDaa_next s))
  exact ⟨rfl, t, hexec, ha ▸ daaOp_fst_toNat _ _, hf.trans (daaOp_snd _ _), hret, hframe, hsp⟩

/-! ## Complements -/

/-- Settles O28: `CPL` writes A and the flags, `SCF` and `CCF` the flags alone. -/
theorem accumulatorAndCarryComplements : Obligations.AccumulatorAndCarryComplements :=
  fun s => ⟨rfl, rfl, rfl,
    regWithFlags_spec ((exec_cplOf s).trans (runCpl_next s)),
    flags_spec ((exec_scfOf s).trans (runScf_next s)),
    flags_spec ((exec_ccfOf s).trans (runCcf_next s))⟩

/-! ## Packed decimal -/

/-- The packed form of a two-digit number. -/
def packed (d : Nat) : Nat := 16 * (d / 10) + d % 10

/-- The packed form modulo 100, of a number given by its digits `u`, `v` and its carry `k`. -/
theorem packed_digits (k : Nat) {u v : Nat} (hu : u < 10) (hv : v < 10) :
    packed ((100 * k + 10 * u + v) % 100) = 16 * u + v := by
  unfold packed
  omega

section
variable {p q : Nat} (z h c : Bool)

/-- After the addition of packed bytes whose low digits add up to `q`, the low correction is made at their decimal
carry: either it is a carry out of bit 3, or the low nibble shows it. -/
theorem daaLow_addition (hq : q ≤ 18) :
    daaLow ((16 * p + q) % 256) ⟨z, false, decide (q > 15), c⟩ = 6 * (q / 10) := by
  simp only [daaLow, decide_eq_true_eq, true_and]
  split <;> omega

/-- The high correction is made, and carry set, at the decimal carry of the whole sum. -/
theorem daaCarry_addition (hp : p ≤ 18) (hq : q ≤ 18) :
    16 * p + q > 255 ∨ (16 * p + q) % 256 > 0x99 ↔ 10 * p + q ≥ 100 := by
  omega

theorem daaHigh_addition (hp : p ≤ 18) (hq : q ≤ 18) :
    daaHigh ((16 * p + q) % 256) ⟨z, false, h, decide (16 * p + q > 255)⟩ = 0x60 * ((p + q / 10) / 10) := by
  simp only [daaHigh, decide_eq_true_eq, true_and, daaCarry_addition hp hq]
  split <;> omega

/-- Each correction turns a carry of 10 into one of 16, so the corrected sum is the packed decimal one. -/
theorem daaResult_addition (hp : p ≤ 18) (hq : q ≤ 18) :
    daaResult ((16 * p + q) % 256) ⟨z, false, decide (q > 15), decide (16 * p + q > 255)⟩ =
      packed ((10 * p + q) % 100) := by
  have hdecimal : 10 * p + q = 100 * ((p + q / 10) / 10) + 10 * ((p + q / 10) % 10) + q % 10 := by omega
  rw [hdecimal, packed_digits _ (Nat.mod_lt _ (by decide)) (Nat.mod_lt _ (by decide)), daaResult,
    daaLow_addition z _ hq, daaHigh_addition z _ hp hq, if_neg Bool.false_ne_true]
  omega

/-- After a subtraction the corrections are made at the borrows. -/
theorem daaResult_subtraction (a : Nat) :
    daaResult a ⟨z, true, h, c⟩ = (a + 256 - (6 * h.toNat + 0x60 * c.toNat)) % 256 := by
  cases h <;> cases c <;> rfl

end

/-- Digits `u`, `v` and borrows `b`, `k` of a decimal subtraction: each correction turns a borrow of 16 into one of
10, so the corrected difference is the packed decimal one. -/
theorem packed_difference {x1 x0 y1 y0 u v : Nat} (b k : Bool) (hu : u < 10) (hv : v < 10)
    (hlow : x0 + 10 * b.toNat = y0 + v) (hhigh : x1 + 10 * k.toNat = y1 + b.toNat + u) :
    ((16 * x1 + x0 + 512 - (16 * y1 + y0)) % 256 + 256 - (6 * b.toNat + 0x60 * k.toNat)) % 256 =
      packed ((100 + 10 * x1 + x0 - (10 * y1 + y0)) % 100) := by
  have hb := b.toNat_le
  have hk := k.toNat_le
  have hdecimal : 100 + 10 * x1 + x0 - (10 * y1 + y0) = 100 * (1 - k.toNat) + 10 * u + v := by omega
  have hbinary : 16 * x1 + x0 + 512 - (16 * y1 + y0) + 256 * k.toNat =
    512 + 16 * u + v + 6 * b.toNat + 0x60 * k.toNat := by omega
  rw [hdecimal, packed_digits _ hu hv]
  omega

/-- One digit of a decimal subtraction: with a borrow `b` in, `k` is the borrow out and `u` the digit left. -/
theorem exists_digit_of_borrow {x y b : Nat} {k : Bool} (hx : x < 10) (hy : y < 10) (hb : b ≤ 1)
    (hk : k = true ↔ x < y + b) :
    ∃ u < 10, x + 10 * k.toNat = y + b + u := by
  cases k with
  | false =>
    have hle : y + b ≤ x := Nat.le_of_not_lt fun hlt => Bool.false_ne_true (hk.2 hlt)
    exact ⟨x - (y + b), by omega, by rw [Bool.toNat_false]; omega⟩
  | true =>
    have hlt : x < y + b := hk.1 rfl
    exact ⟨x + 10 - (y + b), by omega, by rw [Bool.toNat_true]; omega⟩

/-- The borrow of the high digit takes in the one of the low digit. -/
theorem borrow_iff {x1 x0 y1 y0 : Nat} (hx0 : x0 < 10) (hy0 : y0 < 10) :
    decide (16 * x1 + x0 < 16 * y1 + y0) = true ↔ x1 < y1 + (decide (x0 < y0)).toNat := by
  rw [decide_eq_true_eq]
  by_cases hlow : x0 < y0
  · rw [decide_eq_true hlow, Bool.toNat_true]
    omega
  · rw [decide_eq_false hlow, Bool.toNat_false]
    omega

/-- The corrected difference of two packed bytes is the packed decimal one. -/
theorem daaResult_difference {x1 x0 y1 y0 : Nat} (hx1 : x1 < 10) (hx0 : x0 < 10) (hy1 : y1 < 10) (hy0 : y0 < 10)
    (z : Bool) :
    daaResult ((16 * x1 + x0 + 512 - (16 * y1 + y0)) % 256)
        ⟨z, true, decide (x0 < y0), decide (16 * x1 + x0 < 16 * y1 + y0)⟩ =
      packed ((100 + 10 * x1 + x0 - (10 * y1 + y0)) % 100) := by
  obtain ⟨v, hv, hlow⟩ : ∃ v < 10, x0 + 10 * (decide (x0 < y0)).toNat = y0 + v :=
    exists_digit_of_borrow (b := 0) hx0 hy0 (Nat.zero_le 1) decide_eq_true_iff
  obtain ⟨u, hu, hhigh⟩ := exists_digit_of_borrow hx1 hy1 (decide (x0 < y0)).toNat_le (borrow_iff hx0 hy0)
  rw [daaResult_subtraction, packed_difference _ _ hu hv hlow hhigh]

/-! ## `DAA` after `ADD` and `SUB` -/

/-- What O26 says of A and of C. -/
theorem daa_spec (s : State) :
    ∃ t, exec .daa s = .next t ∧ (t.reg .a).toNat = daaResult (s.reg .a).toNat s.flags ∧
      t.flags.c = (s.flags.c || (!s.flags.n && decide ((s.reg .a).toNat > 0x99))) := by
  obtain ⟨-, t, hexec, ha, hf, -⟩ := decimalAdjust s
  exact ⟨t, hexec, ha, congrArg Flags.c hf⟩

theorem toNat_packedByte {x1 x0 : Nat} (h1 : x1 < 10) (h0 : x0 < 10) :
    (BitVec.ofNat 8 (16 * x1 + x0)).toNat = 16 * x1 + x0 := by
  rw [BitVec.toNat_ofNat]
  omega

theorem lowNibble_packed {x1 x0 : Nat} (h0 : x0 < 10) : (16 * x1 + x0) % 16 = x0 := by omega

section
variable {s : State} {x1 x0 y1 y0 : Nat} (hx1 : x1 < 10) (hx0 : x0 < 10) (hy1 : y1 < 10) (hy0 : y0 < 10)
  (ha : s.reg .a = BitVec.ofNat 8 (16 * x1 + x0))
include hx1 hx0 hy1 hy0 ha

/-- O21 for two packed bytes, in the sums of their digits. -/
theorem addD8_packed_spec :
    ∃ t, exec (.addAD8 (BitVec.ofNat 8 (16 * y1 + y0))) s = .next t ∧
      (t.reg .a).toNat = (16 * (x1 + y1) + (x0 + y0)) % 256 ∧
      ∃ z, t.flags = ⟨z, false, decide (x0 + y0 > 15), decide (16 * (x1 + y1) + (x0 + y0) > 255)⟩ := by
  obtain ⟨-, t, hexec, hres, hflags, -⟩ := additions false (.imm (BitVec.ofNat 8 (16 * y1 + y0))) s
  have hsum : 16 * x1 + x0 + (16 * y1 + y0) = 16 * (x1 + y1) + (x0 + y0) := by omega
  simp only [sourceByte, Bool.false_and, Bool.toNat_false, Nat.add_zero, ha, toNat_packedByte hx1 hx0,
    toNat_packedByte hy1 hy0, hsum, lowNibble_packed hx0, lowNibble_packed hy0] at hres hflags
  exact ⟨t, hexec, hres, _, hflags⟩

/-- O22 for two packed bytes, in their digits. -/
theorem subD8_packed_spec :
    ∃ t, exec (.subD8 (BitVec.ofNat 8 (16 * y1 + y0))) s = .next t ∧
      (t.reg .a).toNat = (16 * x1 + x0 + 512 - (16 * y1 + y0)) % 256 ∧
      ∃ z, t.flags = ⟨z, true, decide (x0 < y0), decide (16 * x1 + x0 < 16 * y1 + y0)⟩ := by
  obtain ⟨-, t, hexec, hres, hflags, -⟩ := subtractions false (.imm (BitVec.ofNat 8 (16 * y1 + y0))) s
  simp only [sourceByte, Bool.false_and, Bool.toNat_false, Nat.add_zero, Nat.sub_zero, ha, toNat_packedByte hx1 hx0,
    toNat_packedByte hy1 hy0, lowNibble_packed hx0, lowNibble_packed hy0] at hres hflags
  exact ⟨t, hexec, hres, _, hflags⟩

theorem addD8_daa_spec :
    ∃ t u, exec (.addAD8 (BitVec.ofNat 8 (16 * y1 + y0))) s = .next t ∧ exec .daa t = .next u ∧
      (u.reg .a).toNat = packed ((10 * x1 + x0 + 10 * y1 + y0) % 100) ∧
      u.flags.c = decide (10 * x1 + x0 + 10 * y1 + y0 ≥ 100) := by
  obtain ⟨t, ht, hta, z, htf⟩ := addD8_packed_spec hx1 hx0 hy1 hy0 ha
  obtain ⟨u, hu, hua, huc⟩ := daa_spec t
  have hp : x1 + y1 ≤ 18 := by omega
  have hq : x0 + y0 ≤ 18 := by omega
  have hsum : 10 * x1 + x0 + 10 * y1 + y0 = 10 * (x1 + y1) + (x0 + y0) := by omega
  rw [hta, htf] at hua huc
  rw [Bool.not_false, Bool.true_and, ← Bool.decide_or, decide_eq_decide.2 (daaCarry_addition hp hq)] at huc
  rw [hsum]
  exact ⟨t, u, ht, hu, hua.trans (daaResult_addition z hp hq), huc⟩

theorem subD8_daa_spec :
    ∃ t u, exec (.subD8 (BitVec.ofNat 8 (16 * y1 + y0))) s = .next t ∧ exec .daa t = .next u ∧
      (u.reg .a).toNat = packed ((100 + 10 * x1 + x0 - (10 * y1 + y0)) % 100) ∧
      u.flags.c = decide (10 * x1 + x0 < 10 * y1 + y0) := by
  obtain ⟨t, ht, hta, z, htf⟩ := subD8_packed_spec hx1 hx0 hy1 hy0 ha
  obtain ⟨u, hu, hua, huc⟩ := daa_spec t
  have hlt : 16 * x1 + x0 < 16 * y1 + y0 ↔ 10 * x1 + x0 < 10 * y1 + y0 := by omega
  rw [htf] at huc
  rw [hta, htf] at hua
  rw [← decide_eq_decide.2 hlt]
  exact ⟨t, u, ht, hu, hua.trans (daaResult_difference hx1 hx0 hy1 hy0 z), huc.trans (Bool.or_false _)⟩

end

/-- Settles O27: `ADD` or `SUB` as O21 and O22 give it, then `DAA` as O26 gives it. -/
theorem daaIsDecimal : Obligations.DaaIsDecimal :=
  fun _ _ _ _ _ hx1 hx0 hy1 hy0 ha =>
    ⟨addD8_daa_spec hx1 hx0 hy1 hy0 ha, subD8_daa_spec hx1 hx0 hy1 hy0 ha⟩

end Sys2Proof.Machine
end

section
/-! SUPPORT. The statements of 43_alu16.md but R188: `ADD HL,rr`, and `INC rr` and `DEC rr`.  Either writes one pair;
the sum also writes the flags. -/

namespace Sys2Proof.Machine

/-! ## Words as numbers -/

theorem addHl_fst_toNat (a b : Word) (f : Flags) : (addHl a b f).1.toNat = (a.toNat + b.toNat) % 65536 :=
  BitVec.toNat_ofNat (a.toNat + b.toNat) 16

/-- A step down is a step up by 65535 (R187). -/
theorem toNat_sub_one (v : Word) : (v - 1).toNat = (v.toNat + 65535) % 65536 := by
  rw [Nat.add_comm]
  exact BitVec.toNat_sub v 1

/-! ## The step of a pair -/

/-- A load of one pair, its new value given as a number. -/
theorem stepPair_spec {i : Instr} {s : State} {n c x : Nat} {p : Pair} {v : Word}
    (h : exec i s = .next (((s.advance n).setPair p v).addClk c)) (hv : v.toNat = x) :
    ∃ t, exec i s = .next t ∧ (t.pair p).toNat = x ∧ t.flags = s.flags ∧ Retired n c s t ∧
      Frame (pairRegs p) [] s t ∧ (p ≠ .sp → t.sp = s.sp) := by
  obtain ⟨t, hexec, hpair, hret, hframe, hflags, hsp⟩ := loadPair_spec h
  exact ⟨t, hexec, hpair ▸ hv, hflags, hret, hframe, hsp⟩

/-! ## Encodings -/

theorem encode_addHlPairOf (p : Pair) : encode (Instr.addHlPairOf p) = [opcode (0x09 + 16 * pairCode p)] := by
  cases p <;> rfl

theorem encode_incPairOf (p : Pair) : encode (Instr.incPairOf p) = [opcode (0x03 + 16 * pairCode p)] := by
  cases p <;> rfl

theorem encode_decPairOf (p : Pair) : encode (Instr.decPairOf p) = [opcode (0x0B + 16 * pairCode p)] := by
  cases p <;> rfl

/-! ## The statements -/

/-- Settles O29: `HL` and the flags of one `addHl`, whose operands are both of the old state. -/
theorem addToHl : Obligations.AddToHl := by
  intro p s
  refine ⟨encode_addHlPairOf p, _, (exec_addHlPairOf p s).trans (runAddHlPair_next p s), ?_, rfl, ⟨rfl, rfl⟩, ?_, rfl⟩
  · rw [State.addClk_pair, State.setFlags_pair, State.pair_setPair_same]
    exact addHl_fst_toNat (s.pair .hl) (s.pair p) s.flags
  · exact (((Frame.refl s).advance 1).setPair .hl _ |>.setFlags _).addClk 8

/-- Settles O30: either is a load of the pair with its old value stepped. -/
theorem pairIncrementsAndDecrements : Obligations.PairIncrementsAndDecrements :=
  fun p s => ⟨encode_incPairOf p, encode_decPairOf p,
    stepPair_spec ((exec_incPairOf p s).trans (runIncPair_next p s)) (BitVec.toNat_add (s.pair p) 1),
    stepPair_spec ((exec_decPairOf p s).trans (runDecPair_next p s)) (toNat_sub_one (s.pair p))⟩

end Sys2Proof.Machine
end

section
/-! SUPPORT. The statements of 44_rotate_shift_bit.md: the rotates and shifts, `BIT`, `RES` and `SET`.  What `shift`,
`clearBit` and `setBit` give is stated bit by bit; each instruction writes at most one byte, and all but `RES` and `SET`
the flags. -/

namespace Sys2Proof.Machine

/-! ## The shifter, bit by bit -/

section
variable {k : Nat}

/-- The two halves of a rotate: every bit comes from the place `m` further on, round the byte (R189). -/
theorem getLsbD_shiftLeft_or_ushiftRight {n m : Nat} (hnm : n + m = 8) (hk : k < 8) (v : Byte) :
    (v <<< n ||| v >>> m).getLsbD k = v.getLsbD ((k + m) % 8) := by
  rw [BitVec.getLsbD_or, BitVec.getLsbD_shiftLeft, BitVec.getLsbD_ushiftRight]
  by_cases hkn : k < n
  · have hmod : (k + m) % 8 = m + k := by omega
    simp [hkn, hmod]
  · have hmod : (k + m) % 8 = k - n := by omega
    simp [hkn, hk, hmod, BitVec.getLsbD_of_ge v (m + k) (by omega)]

theorem getLsbD_shiftLeft_one (hk : k < 8) (v : Byte) :
    (v <<< 1).getLsbD k = if k = 0 then false else v.getLsbD (k - 1) := by
  rw [BitVec.getLsbD_shiftLeft]
  split <;> simp_all

theorem getLsbD_ushiftRight_one (v : Byte) :
    (v >>> 1).getLsbD k = if k = 7 then false else v.getLsbD (k + 1) := by
  rw [BitVec.getLsbD_ushiftRight, Nat.add_comm]
  split
  · next h => exact BitVec.getLsbD_of_ge v (k + 1) (by omega)
  · rfl

/-- A byte with at most the bit `n` set. -/
theorem getLsbD_ite_twoPow {n : Nat} (hn : n < 8) (b : Bool) :
    (if b then BitVec.twoPow 8 n else 0).getLsbD k = (decide (n = k) && b) := by
  cases b <;> simp [hn]

/-- A shift to the left with a bit put in at the bottom. -/
theorem getLsbD_shiftLeft_one_or (hk : k < 8) (v : Byte) (b : Bool) :
    (v <<< 1 ||| if b then BitVec.twoPow 8 0 else 0).getLsbD k = if k = 0 then b else v.getLsbD (k - 1) := by
  rw [BitVec.getLsbD_or, getLsbD_shiftLeft_one hk, getLsbD_ite_twoPow (by decide)]
  split <;> simp_all [eq_comm]

/-- A shift to the right with a bit put in at the top. -/
theorem getLsbD_ushiftRight_one_or (v : Byte) (b : Bool) :
    (v >>> 1 ||| if b then BitVec.twoPow 8 7 else 0).getLsbD k = if k = 7 then b else v.getLsbD (k + 1) := by
  rw [BitVec.getLsbD_or, getLsbD_ushiftRight_one, getLsbD_ite_twoPow (by decide)]
  split <;> simp_all [eq_comm]

/-- The result of each operation, bit by bit (R189). -/
theorem shift_fst_getLsbD (op : RotOp) (v : Byte) (cin : Bool) (hk : k < 8) :
    (shift op v cin).1.getLsbD k = shiftedBit op v cin k := by
  cases op with
  | rlc => exact getLsbD_shiftLeft_or_ushiftRight rfl hk v
  | rrc =>
    rw [shift, BitVec.or_comm]
    exact getLsbD_shiftLeft_or_ushiftRight rfl hk v
  | rl => exact getLsbD_shiftLeft_one_or hk v cin
  | rr => exact getLsbD_ushiftRight_one_or v cin
  | sla => exact getLsbD_shiftLeft_one hk v
  | sra =>
    have hsign : v &&& 0x80 = if v.getLsbD 7 then BitVec.twoPow 8 7 else 0 := BitVec.and_twoPow v 7
    have hmin : v.getLsbD (min 7 (k + 1)) = if k = 7 then v.getLsbD 7 else v.getLsbD (k + 1) := by
      split <;> congr 1 <;> omega
    rw [shiftedBit, hmin, ← getLsbD_ushiftRight_one_or, ← hsign]
    rfl
  | swap => exact getLsbD_shiftLeft_or_ushiftRight rfl hk v
  | srl => exact getLsbD_ushiftRight_one v

/-- The bit out of each operation (R189). -/
theorem shift_snd (op : RotOp) (v : Byte) (cin : Bool) : (shift op v cin).2 = shiftedOut op v := by
  cases op <;> rfl

/-! ## One bit cleared or set -/

theorem Idx8.value_lt (i : Idx8) : i.value < 8 := by
  cases i <;> decide

/-- The mask of bit `b` (R212, R214). -/
theorem getLsbD_one_shiftLeft_value (i : Idx8) : ((1 : Byte) <<< i.value).getLsbD k = decide (k = i.value) := by
  have htwoPow : (1 : Byte) <<< i.value = BitVec.twoPow 8 i.value := rfl
  rw [htwoPow, BitVec.getLsbD_twoPow, decide_eq_true (Idx8.value_lt i), Bool.true_and, decide_eq_decide.2 eq_comm]

theorem clearBit_getLsbD (v : Byte) (i : Idx8) (hk : k < 8) :
    (clearBit v i).getLsbD k = if k = i.value then false else v.getLsbD k := by
  rw [clearBit, BitVec.getLsbD_and, BitVec.getLsbD_not, getLsbD_one_shiftLeft_value]
  split <;> simp_all

theorem setBit_getLsbD (v : Byte) (i : Idx8) :
    (setBit v i).getLsbD k = if k = i.value then true else v.getLsbD k := by
  rw [setBit, BitVec.getLsbD_or, getLsbD_one_shiftLeft_value]
  split <;> simp_all

end

/-! ## Encodings -/

theorem encode_rotRegOf (op : RotOp) (r : Reg) :
    encode (Instr.rotRegOf op r) = [0xCB, opcode (8 * rotCode op + regCode r)] := by
  cases op <;> cases r <;> rfl

theorem encode_rotAtHlOf (op : RotOp) : encode (Instr.rotAtHlOf op) = [0xCB, opcode (8 * rotCode op + 6)] := by
  cases op <;> rfl

theorem encode_bitRegOf (i : Idx8) (r : Reg) :
    encode (Instr.bitRegOf i r) = [0xCB, opcode (0x40 + 8 * i.value + regCode r)] := by
  cases i <;> cases r <;> rfl

theorem encode_bitAtHlOf (i : Idx8) : encode (Instr.bitAtHlOf i) = [0xCB, opcode (0x46 + 8 * i.value)] := by
  cases i <;> rfl

theorem encode_resRegOf (i : Idx8) (r : Reg) :
    encode (Instr.resRegOf i r) = [0xCB, opcode (0x80 + 8 * i.value + regCode r)] := by
  cases i <;> cases r <;> rfl

theorem encode_setRegOf (i : Idx8) (r : Reg) :
    encode (Instr.setRegOf i r) = [0xCB, opcode (0xC0 + 8 * i.value + regCode r)] := by
  cases i <;> cases r <;> rfl

theorem encode_resAtHlOf (i : Idx8) : encode (Instr.resAtHlOf i) = [0xCB, opcode (0x86 + 8 * i.value)] := by
  cases i <;> rfl

theorem encode_setAtHlOf (i : Idx8) : encode (Instr.setAtHlOf i) = [0xCB, opcode (0xC6 + 8 * i.value)] := by
  cases i <;> rfl

/-! ## The rotates and shifts -/

/-- R190 to R193, the four rotates of A. -/
theorem runRotAcc_next (op : RotOp) (s : State) :
    runRotAcc op s = .next ((((s.advance 1).setReg .a (shift op (s.reg .a) s.flags.c).1).setFlags
      (rotAccFlags (shift op (s.reg .a) s.flags.c))).addClk 4) := rfl

/-- A rotate of A has the result and the bit out of `shift`, and clears the other flags (R190 to R193). -/
theorem rotAcc_spec {i : Instr} {op : RotOp} {s : State} (h : exec i s = runRotAcc op s) :
    ∃ t, exec i s = .next t ∧
      (∀ k, k < 8 → (t.reg .a).getLsbD k = shiftedBit op (s.reg .a) s.flags.c k) ∧
      t.flags = ⟨false, false, false, shiftedOut op (s.reg .a)⟩ ∧ Retired 1 4 s t ∧ Frame [.a] [] s t ∧ t.sp = s.sp := by
  obtain ⟨t, hexec, ha, hf, hret, hframe, hsp⟩ := regWithFlags_spec (h.trans (runRotAcc_next op s))
  rw [rotAccFlags, shift_snd] at hf
  exact ⟨t, hexec, fun k hk => ha ▸ shift_fst_getLsbD op (s.reg .a) s.flags.c hk, hf, hret, hframe, hsp⟩

/-- Settles O31: the four are one operation, whose flags do not look at the result. -/
theorem accumulatorRotates : Obligations.AccumulatorRotates := by
  refine ⟨rfl, rfl, rfl, rfl, fun s p hp => ?_⟩
  simp only [List.mem_cons, List.not_mem_nil, or_false] at hp
  obtain rfl | rfl | rfl | rfl := hp
  · exact rotAcc_spec (exec_rlcaOf s)
  · exact rotAcc_spec (exec_rrcaOf s)
  · exact rotAcc_spec (exec_rlaOf s)
  · exact rotAcc_spec (exec_rraOf s)

/-- Settles O32: the register and the flags of one `shift`, Z read off the byte written. -/
theorem rotatesOfRegisters : Obligations.RotatesOfRegisters := by
  intro op r s
  obtain ⟨t, hexec, hr, hf, hret, hframe, hsp⟩ :=
    regWithFlags_spec ((exec_rotRegOf op r s).trans (runRotReg_next op r s))
  rw [rotFlags, shift_snd, ← hr] at hf
  exact ⟨encode_rotRegOf op r, t, hexec, fun k hk => hr ▸ shift_fst_getLsbD op (s.reg r) s.flags.c hk, hf, hret, hframe,
    hsp⟩

/-- Settles O33: the byte at `HL` and the flags of one `shift`, Z and the event read off the byte written. -/
theorem rotatesOfMemory : Obligations.RotatesOfMemory := by
  intro op s
  obtain ⟨t, hexec, hm, hf, hret, hframe, hsp⟩ :=
    storeWithFlags_spec ((exec_rotAtHlOf op s).trans (runRotAtHl_next op s))
  rw [rotFlags, shift_snd, ← hm] at hf
  rw [← hm] at hframe
  exact ⟨encode_rotAtHlOf op, t, hexec, fun k hk => hm ▸ shift_fst_getLsbD op s.atHl s.flags.c hk, hf, hret, hframe, hsp⟩

/-! ## The bit operations -/

/-- Settles O34: `BIT` writes the flags alone. -/
theorem bitTests : Obligations.BitTests :=
  fun i r s => ⟨encode_bitRegOf i r, encode_bitAtHlOf i,
    flags_spec ((exec_bitRegOf i r s).trans (runBitReg_next i r s)),
    flags_spec ((exec_bitAtHlOf i s).trans (runBitAtHl_next i s))⟩

section
variable {i : Instr} {s : State} {n c : Nat} {r : Reg} {v : Byte} {a : Word} {bits : Nat → Bool}

/-- A load of one register, the byte given by its bits. -/
theorem loadBits_spec (h : exec i s = .next (((s.advance n).setReg r v).addClk c))
    (hv : ∀ k, k < 8 → v.getLsbD k = bits k) :
    ∃ t, exec i s = .next t ∧ (∀ k, k < 8 → (t.reg r).getLsbD k = bits k) ∧ Retired n c s t ∧ Frame [r] [] s t ∧
      t.flags = s.flags ∧ t.sp = s.sp := by
  obtain ⟨t, hexec, rfl, hrest⟩ := load_spec h
  exact ⟨t, hexec, hv, hrest⟩

/-- A store of one byte, given by its bits and read back for the event. -/
theorem storeBits_spec (h : exec i s = .next (((s.advance n).writeByte a v).addClk c))
    (hv : ∀ k, k < 8 → v.getLsbD k = bits k) :
    ∃ t, exec i s = .next t ∧ (∀ k, k < 8 → (t.readByte a).getLsbD k = bits k) ∧ Retired n c s t ∧
      Frame [] [event a (t.readByte a)] s t ∧ t.flags = s.flags ∧ t.sp = s.sp := by
  obtain ⟨t, hexec, rfl, hrest⟩ := store_spec h
  exact ⟨t, hexec, hv, hrest⟩

end

/-- Settles O35: `RES` and `SET` load or store the byte of `clearBit` or `setBit`, whatever it was before. -/
theorem bitResetsAndSets : Obligations.BitResetsAndSets :=
  fun i r s => ⟨encode_resRegOf i r, encode_setRegOf i r, encode_resAtHlOf i, encode_setAtHlOf i,
    loadBits_spec ((exec_resRegOf i r s).trans (runResReg_next i r s)) fun _ hk => clearBit_getLsbD (s.reg r) i hk,
    loadBits_spec ((exec_setRegOf i r s).trans (runSetReg_next i r s)) fun _ _ => setBit_getLsbD (s.reg r) i,
    storeBits_spec ((exec_resAtHlOf i s).trans (runResAtHl_next i s)) fun _ hk => clearBit_getLsbD s.atHl i hk,
    storeBits_spec ((exec_setAtHlOf i s).trans (runSetAtHl_next i s)) fun _ _ => setBit_getLsbD s.atHl i⟩

end Sys2Proof.Machine
end

section
/-! SUPPORT. The statements of 45_control_flow.md: jumps, calls, restarts and returns.  What a call and what a return
leaves is said once of the state, so that the conditional forms are a choice between two states already described. -/

namespace Sys2Proof.Machine

/-! ## Conditions and targets -/

theorem cond_eq_true_iff (s : State) (cc : Cond) : s.flags.cond cc = true ↔ condHolds s cc := by
  cases cc <;> simp [Flags.cond, condHolds]

/-- A relative target is the signed sum modulo 2^16, counted from the address of the instruction (R224). -/
theorem relTarget_toNat (pc : Word) (e : Byte) :
    ((pc + 2 + sext16 e).toNat : Int) = ((pc.toNat : Int) + 2 + e.toInt) % 65536 := by
  have hsum : ((pc + 2 + sext16 e).toNat : Int) = (((pc + 2).toNat : Int) + e.toInt) % 65536 :=
    addSp_fst_toNat (pc + 2) e
  have hnext : (pc + 2).toNat = (pc.toNat + 2) % 65536 := BitVec.toNat_add pc 2
  omega

/-- A restart address is eight times the restart number (R231). -/
theorem restartAddress_eq (i : Idx8) : restartAddress i = BitVec.ofNat 16 (8 * i.value) :=
  congrArg (BitVec.ofNat 16) (Nat.mul_comm i.value 8)

/-! ## The states after a jump, a call and a return -/

theorem Frame.setPc {rs : List Reg} {evs : List WriteEvent} {s t : State} (h : Frame rs evs s t) (x : Word) :
    Frame rs evs s (t.setPc x) :=
  ⟨h.regs, { h.stores with }, { h.control with }, { h.engine with }⟩

section
variable (s : State) (n c : Nat)

theorem frame_fallThrough : Frame [] [] s ((s.advance n).addClk c) := ((Frame.refl s).advance n).addClk c

theorem frame_jump (w : Word) : Frame [] [] s (((s.advance n).setPc w).addClk c) :=
  (((Frame.refl s).advance n).setPc w).addClk c

theorem frame_ret : Frame [] [] s (((s.advance n).popped.setPc s.popValue).addClk c) :=
  (((Frame.refl s).advance n).popped.setPc s.popValue).addClk c

/-- The state after a call that pushes `ra` (R226). -/
theorem called_push16 (ra w : Word) : Called ra w s ((((s.advance n).push16 ra).setPc w).addClk c) :=
  ⟨rfl, rfl, (s.advance n).readByte_push16_high ra, (s.advance n).readByte_push16_low ra,
    ((((Frame.refl s).advance n).push16 ra).setPc w).addClk c, rfl⟩

/-- The state after a return (R228). -/
theorem returned_popped : Returned s (((s.advance n).popped.setPc s.popValue).addClk c) :=
  have hframe := frame_ret s n c
  ⟨s.popValue_eq_join, rfl, hframe.regs, hframe.stores, hframe.engine, rfl, rfl⟩

/-- A return from interrupt is a return that also writes the enable and its schedule (R230). -/
theorem returned_returnInterrupt : Returned s ((s.advance n).returnInterrupt.addClk c) := by
  obtain ⟨hpc, hsp, hregs, hstores, hengine, hflags, hrun⟩ := returned_popped s n c
  exact ⟨hpc, hsp, hregs, { hstores with }, { hengine with }, hflags, hrun⟩

end

/-- A return in the state a call left gives control back at the pushed address, with `SP`, registers and flags as
before the call, for every `SP`. -/
theorem Called.restored_by_return {ra w : Word} {s t u : State} (hc : Called ra w s t) (hr : Returned t u) :
    u.pc = ra ∧ u.sp = s.sp ∧ RegsKeptExcept [] s u ∧ u.flags = s.flags := by
  obtain ⟨-, hsp, hhigh, hlow, hframe, hflags⟩ := hc
  obtain ⟨hpc', hsp', hregs', -, -, hflags', -⟩ := hr
  refine ⟨?_, ?_, fun r hr => (hregs' r hr).trans (hframe.regs r hr), hflags'.trans hflags⟩
  · rw [hpc', hsp, sub_two_add_one, hhigh, hlow, joinBytes_hi_lo]
  · rw [hsp', hsp, BitVec.sub_add_cancel]

/-! ## The conditional forms -/

section
variable {i : Instr} {cc : Cond} {s t u : State}

theorem conditional_cases (h : exec i s = .next (if s.flags.cond cc then t else u)) :
    (condHolds s cc ∧ exec i s = .next t) ∨ (¬ condHolds s cc ∧ exec i s = .next u) := by
  by_cases hc : condHolds s cc
  · exact .inl ⟨hc, by rw [h, if_pos ((cond_eq_true_iff s cc).2 hc)]⟩
  · exact .inr ⟨hc, by rw [h, if_neg (mt (cond_eq_true_iff s cc).1 hc)]⟩

/-- A conditional instruction has the one outcome where its condition holds, the other where it does not. -/
theorem conditional_spec {P Q : State → Prop} (h : exec i s = .next (if s.flags.cond cc then t else u)) (ht : P t)
    (hu : Q u) : ∃ v, exec i s = .next v ∧ (condHolds s cc → P v) ∧ (¬ condHolds s cc → Q v) := by
  obtain ⟨hc, hexec⟩ | ⟨hc, hexec⟩ := conditional_cases h
  · exact ⟨t, hexec, fun _ => ht, fun hn => absurd hc hn⟩
  · exact ⟨u, hexec, fun hp => absurd hp hc, fun _ => hu⟩

/-- A conditional jump has one frame, taken or not. -/
theorem conditionalJump_spec {n c d : Nat} {w : Word}
    (h : exec i s = .next (if s.flags.cond cc then ((s.advance n).setPc w).addClk c else (s.advance n).addClk d)) :
    ∃ v, exec i s = .next v ∧ (condHolds s cc → v.pc = w ∧ v.clk = s.clk + c) ∧
      (¬ condHolds s cc → Retired n d s v) ∧ Frame [] [] s v ∧ v.flags = s.flags ∧ v.sp = s.sp := by
  obtain ⟨hc, hexec⟩ | ⟨hc, hexec⟩ := conditional_cases h
  · exact ⟨_, hexec, fun _ => ⟨rfl, rfl⟩, fun hn => absurd hc hn, frame_jump s n c w, rfl, rfl⟩
  · exact ⟨_, hexec, fun hp => absurd hp hc, fun _ => ⟨rfl, rfl⟩, frame_fallThrough s n d, rfl, rfl⟩

end

/-! ## Encodings -/

theorem encode_jpCondOf (cc : Cond) (w : Word) :
    encode (Instr.jpCondOf cc w) = [opcode (0xC2 + 8 * condCode cc), loByte w, hiByte w] := by
  cases cc <;> rfl

theorem encode_jrCondOf (cc : Cond) (e : Byte) :
    encode (Instr.jrCondOf cc e) = [opcode (0x20 + 8 * condCode cc), e] := by
  cases cc <;> rfl

theorem encode_callCondOf (cc : Cond) (w : Word) :
    encode (Instr.callCondOf cc w) = [opcode (0xC4 + 8 * condCode cc), loByte w, hiByte w] := by
  cases cc <;> rfl

theorem encode_retCondOf (cc : Cond) : encode (Instr.retCondOf cc) = [opcode (0xC0 + 8 * condCode cc)] := by
  cases cc <;> rfl

theorem encode_rstOf (i : Idx8) : encode (Instr.rstOf i) = [opcode (0xC7 + 8 * i.value)] := by
  cases i <;> rfl

/-! ## The statements -/

/-- Settles O36: all jumps write `PC` and the clock alone; the target of `JR` is given as a number. -/
theorem jumps : Obligations.Jumps := by
  intro cc w e s
  refine ⟨rfl, rfl, rfl, encode_jpCondOf cc w, encode_jrCondOf cc e,
    ⟨_, (exec_jpAbsOf w s).trans (runJpAbs_next w s), rfl, rfl, frame_jump s 3 16 w, rfl, rfl⟩,
    ⟨_, (exec_jpHlOf s).trans (runJpHl_next s), rfl, rfl, frame_jump s 1 4 s.hl, rfl, rfl⟩,
    conditionalJump_spec ((exec_jpCondOf cc w s).trans (runJpCond_next cc w s)),
    ⟨_, (exec_jrRelOf e s).trans (runJrRel_next e s), relTarget_toNat s.pc e, rfl,
      frame_jump s 2 12 (s.pc + 2 + sext16 e), rfl, rfl⟩, ?_⟩
  obtain ⟨t, hexec, htaken, hrest⟩ := conditionalJump_spec ((exec_jrCondOf cc e s).trans (runJrCond_next cc e s))
  refine ⟨t, hexec, fun hc => ?_, hrest⟩
  obtain ⟨hpc, hclk⟩ := htaken hc
  exact ⟨hpc ▸ relTarget_toNat s.pc e, hclk⟩

/-- Settles O37: `CALL`, `RST` and `CALL cc` taken leave one shape of state. -/
theorem callsAndRestarts : Obligations.CallsAndRestarts :=
  fun cc w i s => ⟨rfl, encode_rstOf i, encode_callCondOf cc w,
    ⟨_, (exec_callAbsOf w s).trans (runCallAbs_next w s), called_push16 s 3 24 (s.pc + 3) w, rfl⟩,
    ⟨_, (exec_rstOf i s).trans (runRst_next i s),
      restartAddress_eq i ▸ called_push16 s 1 16 (s.pc + 1) (restartAddress i), rfl⟩,
    conditional_spec ((exec_callCondOf cc w s).trans (runCallCond_next cc w s))
      ⟨called_push16 s 3 24 (s.pc + 3) w, rfl⟩ ⟨⟨rfl, rfl⟩, frame_fallThrough s 3 12, rfl, rfl⟩⟩

/-- Settles O38: `RET` and `RET cc` taken keep the enable, `RETI` writes it. -/
theorem returns : Obligations.Returns :=
  fun cc s => ⟨rfl, rfl, encode_retCondOf cc,
    ⟨_, (exec_retOf s).trans (runRet_next s), returned_popped s 1 16, rfl, (frame_ret s 1 16).control⟩,
    ⟨_, (exec_retiOf s).trans (runReti_next s), returned_returnInterrupt s 1 16, rfl, rfl, rfl⟩,
    conditional_spec ((exec_retCondOf cc s).trans (runRetCond_next cc s))
      ⟨returned_popped s 1 20, rfl, (frame_ret s 1 20).control⟩
      ⟨⟨rfl, rfl⟩, frame_fallThrough s 1 8, rfl, rfl⟩⟩

/-- Settles O39: the state of the call of O37 meets the return of O38. -/
theorem callThenReturn : Obligations.CallThenReturn := by
  intro w s
  obtain ⟨-, -, -, ⟨t, hcall, hcalled, -⟩, -⟩ := callsAndRestarts .z w .i0 s
  obtain ⟨-, -, -, ⟨u, hret, hreturned, -⟩, -⟩ := returns .z t
  exact ⟨t, u, hcall, hcalled.1, hret, hcalled.restored_by_return hreturned⟩

end Sys2Proof.Machine
end

section
/-! SUPPORT. The statements of 46_misc_control.md: `NOP`, `STOP`, `DI`, `EI` and `HALT`.  For `EI` and for `HALT` the
cases of the rule are said once of the shared operation; the statements pick the case that their premise leaves. -/

namespace Sys2Proof.Machine

/-! ## The cases of `EI` and of `HALT` -/

/-- R239, by case: enabled at once, scheduled, or already enabled. -/
theorem runEi_cases (s : State) :
    (s.params.eiDelay = 0 ∧ runEi s = .next (((s.advance 1).setIme true).addClk 4)) ∨
    (s.params.eiDelay = 1 ∧ s.ime = false ∧ runEi s = .next (((s.advance 1).setImeSched true).addClk 4)) ∨
    (s.params.eiDelay = 1 ∧ s.ime = true ∧ runEi s = .next ((s.advance 1).addClk 4)) := by
  rw [runEi_next]
  obtain hdelay | hdelay : s.params.eiDelay = 0 ∨ s.params.eiDelay = 1 := by omega
  · exact .inl ⟨hdelay, by rw [if_pos hdelay]⟩
  · have hdelayNe : s.params.eiDelay ≠ 0 := by simp [hdelay]
    cases hime : s.ime with
    | false => exact .inr (.inl ⟨hdelay, rfl, by rw [if_neg hdelayNe, if_pos rfl]⟩)
    | true => exact .inr (.inr ⟨hdelay, rfl, by rw [if_neg hdelayNe, if_neg Bool.noConfusion]⟩)

/-- R236 where the spec gives `HALT` a meaning. -/
theorem runHalt_enters {s : State} (h : s.ime = true ∨ s.irqSample = none) :
    runHalt s = .next (((s.advance 1).setRun .halted).addClk 4) := by
  obtain ⟨hime, hreq, -⟩ | ⟨-, hnext⟩ := runHalt_cases s
  · obtain hon | hnone := h
    · simp [hime] at hon
    · simp [hnone] at hreq
  · exact hnext

/-- R236, R268 where the spec gives `HALT` none. -/
theorem runHalt_refuses {s : State} {v : Word} (hime : s.ime = false) (hreq : s.irqSample = some v) :
    runHalt s = .refused .haltWithPendingRequest := by
  obtain ⟨-, -, hrefused⟩ | ⟨hon | hnone, -⟩ := runHalt_cases s
  · exact hrefused
  · simp [hime] at hon
  · simp [hreq] at hnone

/-! ## The statements -/

/-- Settles O41, in the three cases of `EI`. -/
theorem enableInterrupts : Obligations.EnableInterrupts := by
  refine ⟨rfl, fun s => ?_⟩
  obtain ⟨hdelay, hnext⟩ | ⟨hdelay, hime, hnext⟩ | ⟨hdelay, hime, hnext⟩ := runEi_cases s <;>
    refine ⟨_, (exec_eiOf s).trans hnext, ?_⟩
  · exact ⟨fun _ => ⟨rfl, rfl⟩, by simp [hdelay], by simp [hdelay], rfl⟩
  · exact ⟨by simp [hdelay], fun _ _ => ⟨hime, rfl⟩, by simp [hime], rfl⟩
  · exact ⟨by simp [hdelay], by simp [hime], fun _ _ => ⟨hime, rfl⟩, rfl⟩

/-- Settles O40: each of the three has one next state, for every state. -/
theorem nopStopDi : Obligations.NopStopDi :=
  fun pad s => ⟨rfl, rfl, rfl, (exec_nopOf s).trans (runNop_next s), (exec_stopOf pad s).trans (runStop_next pad s),
    (exec_diOf s).trans (runDi_next s)⟩

/-- Settles O42: the premise leaves the case of `HALT` that has a meaning. -/
theorem haltEnters : Obligations.HaltEnters :=
  ⟨rfl, fun s h => (exec_haltOf s).trans (runHalt_enters h)⟩

/-- Settles O43: the premises leave the case of `HALT` that has none. -/
theorem haltRefused : Obligations.HaltRefused :=
  fun s _ hime hreq => (exec_haltOf s).trans (runHalt_refuses hime hreq)

end Sys2Proof.Machine
end

section
/-! SUPPORT. The statements of 50_step.md about one step: what every instruction does to `PC` and the clock, said once
of the effects, and how a step goes when no host action is waiting. -/

namespace Sys2Proof.Machine

/-! ## `PC` and the clock -/

/-- What the instruction of an effect does to `PC` and the clock: it falls through, transfers control (R221 to R231),
falls through because its condition is false, or is an undefined byte. -/
inductive Effect.Timing (e : Effect) (s t : State) : Prop where
  | fallThrough (h : Retired (Effect.bytes e) (Effect.cost e) s t)
  | transfer (hrule : 221 ≤ (Effect.ruleRange e).1 ∧ (Effect.ruleRange e).2 ≤ 231)
      (hclk : t.clk = s.clk + Effect.cost e)
  | notTaken (c : Nat) (hcost : Effect.costNotTaken e = some c) (h : Retired (Effect.bytes e) c s t)
  | undefinedByte (b : Byte) (h : e = .illegal b)

/-- A conditional transfer costs its descriptor's cycles where taken, and its second count where it falls through. -/
theorem Effect.Timing.conditional {e : Effect} {s u : State} {c : Nat} {p : Prop} [Decidable p]
    (hrule : 221 ≤ (Effect.ruleRange e).1 ∧ (Effect.ruleRange e).2 ≤ 231) (hcost : Effect.costNotTaken e = some c)
    (htaken : u.clk = s.clk + Effect.cost e) :
    Effect.Timing e s (if p then u else (s.advance (Effect.bytes e)).addClk c) := by
  split
  · exact .transfer hrule htaken
  · exact .notTaken c hcost ⟨rfl, rfl⟩

/-- Of the instructions that are no transfer, those that branch do so beside `PC` and the clock; every other one is a
single chain of updates that advances `PC` once and adds its cycles once. -/
theorem run_timing (e : Effect) {s t : State} (h : Effect.run e s = .next t) : Effect.Timing e s t := by
  cases e with
  | jpAbs _ | jpHl | jrRel _ | callAbs _ | ret | reti | rst _ =>
    cases h; exact .transfer (by simp [Effect.ruleRange]) (by simp [Effect.cost])
  | jpCond cc w => cases (runJpCond_next cc w s).symm.trans h; exact .conditional (by simp [Effect.ruleRange]) rfl rfl
  | jrCond cc e => cases (runJrCond_next cc e s).symm.trans h; exact .conditional (by simp [Effect.ruleRange]) rfl rfl
  | callCond cc w =>
    cases (runCallCond_next cc w s).symm.trans h
    exact .conditional (by simp [Effect.ruleRange]) rfl (by simp [Effect.cost])
  | retCond cc => cases (runRetCond_next cc s).symm.trans h; exact .conditional (by simp [Effect.ruleRange]) rfl rfl
  | illegal b => exact .undefinedByte b rfl
  | halt =>
    obtain ⟨-, -, hr⟩ | ⟨-, hr⟩ := runHalt_cases s <;> cases hr.symm.trans h
    exact .fallThrough ⟨rfl, rfl⟩
  | ei =>
    obtain ⟨-, hr⟩ | ⟨-, -, hr⟩ | ⟨-, -, hr⟩ := runEi_cases s <;> cases hr.symm.trans h <;>
      exact .fallThrough ⟨rfl, rfl⟩
  | pushPair _ | pushAf | ldAtAbsSp _ => cases h; exact .fallThrough ⟨by simp [Effect.bytes], by simp [Effect.cost]⟩
  | ldPairImm p _ | popPair p | incPair p | decPair p => cases p <;> (cases h; exact .fallThrough ⟨rfl, rfl⟩)
  | aluReg op _ | aluAtHl op | aluImm op _ => cases op <;> (cases h; exact .fallThrough ⟨rfl, rfl⟩)
  | _ => cases h; exact .fallThrough ⟨rfl, rfl⟩

/-- The same of `exec`, in the terms of the instruction's descriptor: `PC` past the instruction with either count of
cycles, or a transfer with the first. -/
theorem exec_timing {i : Instr} {s t : State} {d : Descriptor} (h : exec i s = .next t) (hd : i.desc = some d) :
    Retired d.length d.cycles s t ∨ ((221 ≤ d.rule ∧ d.rule ≤ 231) ∧ t.clk = s.clk + d.cycles) ∨
      ∃ c, d.cyclesNotTaken = some c ∧ Retired d.length c s t := by
  obtain ⟨hlen, hcyc, hnot, hlo, hhi⟩ := desc_effect (Instr.effect i) d (by rwa [instr_effect])
  rw [hlen, hcyc, hnot]
  cases run_timing (Instr.effect i) ((exec_eq_run i s).symm.trans h) with
  | fallThrough h => exact .inl h
  | transfer hrule hclk => exact .inr (.inl ⟨⟨hrule.1.trans hlo, hhi.trans hrule.2⟩, hclk⟩)
  | notTaken c hcost h => exact .inr (.inr ⟨c, hcost, h⟩)
  | undefinedByte b h => rw [eq_instr_of_effect h] at hd; cases hd

/-- Settles O44: the second count is added only where control falls through. -/
theorem cyclesAreTheDescriptors : Obligations.CyclesAreTheDescriptors := by
  intro i s t d h hd
  obtain hret | ⟨-, hclk⟩ | ⟨c, hc, hret⟩ := exec_timing h hd
  · exact .inl hret.clk
  · exact .inl hclk
  · exact .inr ⟨c, hc, hret.clk, hret.pc⟩

/-- Settles O45: only a transfer does not fall through, and its rule is one of R221 to R231. -/
theorem pcAdvancesByLength : Obligations.PcAdvancesByLength := by
  intro i s t d h hd hrule
  obtain hret | ⟨htransfer, -⟩ | ⟨c, -, hret⟩ := exec_timing h hd
  · exact hret.pc
  · exact absurd htransfer hrule
  · exact hret.pc

/-! ## A step without a host action -/

/-- Without a waiting host action there is no `STEP` (R252). -/
theorem step_of_quiet {s : State} (h : s.hostIn = .quiet) : step s = (s.setAck none).stepWith false := by
  have hsingle : s.single = false := by simp [State.single, State.hostCmd, h]
  rw [step, machineStep, State.afterHost_of_quiet h, hsingle]

/-- Settles O54: a machine that is not live only reports (R250, R256). -/
theorem endedMachineStays : Obligations.EndedMachineStays := by
  intro s hquiet hend
  have hlive : (s.setAck none).live = false := by
    obtain h | h | ⟨f, h⟩ := hend <;> simp [State.live, h]
  rw [step_of_quiet hquiet, State.stepWith, hlive]
  rfl

/-- Settles O55: the breakpoint test and the paused mode are met before the instruction part (R252). -/
theorem breakpointsAndPause : Obligations.BreakpointsAndPause := by
  intro s hquiet hexit
  rw [step_of_quiet hquiet]
  refine ⟨fun hrun hfree hbp => ?_, fun hrun hpaused => ?_⟩
  · have hlive : (s.setAck none).live = true := (State.live_iff _).2 ⟨hexit, .inl hrun⟩
    have hbreaks : (s.setAck none).breaks = true := (State.breaks_iff _).2 ⟨hfree, hrun, hbp⟩
    have hstep : (s.setAck none).stepWith false =
        .next (((s.setAck none).setDbgMode .paused).report (.breakpointHit s.pc) 0) := by
      simp [State.stepWith, hlive, hbreaks, hfree]
    exact hstep
  · have hlive : (s.setAck none).live = true := (State.live_iff _).2 ⟨hexit, hrun⟩
    have hstep : (s.setAck none).stepWith false = .next ((s.setAck none).report .waitingForHost 0) := by
      simp [State.stepWith, hlive, hpaused]
    exact hstep

/-! ## An executing step -/

theorem Executing.execute_eq {s : State} (h : Executing s) :
    (s.setAck none).execute = exec (decodeAt s.mem s.pc) (s.setAck none) :=
  State.execute_running (s := s.setAck none) h.running

/-- Three bytes always hold the instruction at their head (R85). -/
theorem decodeBytes_of_decode {b0 b1 b2 : Byte} {i : Instr} {rest : List Byte}
    (h : decode [b0, b1, b2] = .ok (i, rest)) : decodeBytes b0 b1 b2 = i := by
  obtain ⟨-, -, hthree⟩ := encoding_statement (decodeBytes b0 b1 b2)
  have hok := decode_cons (b0 := b0) (tl := [b1, b2]) (i := decodeBytes b0 b1 b2) rfl hthree
  exact (Prod.mk.inj (Except.ok.inj (hok.symm.trans h))).1

/-- Settles O49: the step fetches the same three bytes. -/
theorem stepRunsDecodedInstruction : Obligations.StepRunsDecodedInstruction := by
  intro s i rest hs _ hdecode
  have hfetch : decodeAt s.mem s.pc = i := decodeBytes_of_decode hdecode
  rw [← hfetch, ← hs.execute_eq]
  exact hs.step_eq

/-- The commit as one update of the enable and its schedule (R248). -/
theorem State.commitEi_eq (s : State) (b : Bool) :
    s.commitEi b = (s.setIme (s.ime || (b && s.imeSched))).setImeSched (s.imeSched && !b) := by
  obtain ⟨rfl, hs, hc⟩ | ⟨rfl | hs, hc⟩ := s.commitEi_cases b
  · simp [hc, hs]
  · rw [hc, Bool.false_and, Bool.or_false, Bool.not_false, Bool.and_true]
    rfl
  · rw [hc, hs, Bool.and_false, Bool.or_false, Bool.false_and]
    exact congrArg s.setImeSched hs

/-- Without a request, or after a `STOP`, the poll has no effect (R252, R272). -/
theorem State.pollUnlessStopped_eq_self {s : State} {q : Option Word} (h : q = none ∨ s.run = .stopped) :
    s.pollUnlessStopped q = s := by
  unfold State.pollUnlessStopped
  obtain rfl | h := h
  · split <;> rfl
  · rw [h]

/-- The end of a step whose instruction part raised no fault (R252). -/
theorem State.finish_of_unfaulted {s t : State} (h : t.unfaulted = true) :
    s.finish t = ((t.commitEi s.imeSched).pollUnlessStopped s.irqSample).dropSample.report .ok
      (((t.commitEi s.imeSched).pollUnlessStopped s.irqSample).clk - s.clk) := by
  obtain ⟨f, hf, -⟩ | ⟨-, hfinish⟩ := s.finish_cases t
  · simp [State.unfaulted, hf] at h
  · exact hfinish

/-- Settles O50: the poll has no effect, so the commit is the last change before the report. -/
theorem quietStepCommitsEnable : Obligations.QuietStepCommitsEnable := by
  intro s t hs hquiet hexec hok
  have hpoll : (t.commitEi s.imeSched).pollUnlessStopped s.irqSample = t.commitEi s.imeSched :=
    State.pollUnlessStopped_eq_self (by rwa [State.commitEi_run])
  rw [hs.step_eq, State.executingStep_next.2 ⟨t, hs.execute_eq.trans hexec, rfl⟩, State.finish_of_unfaulted hok,
    State.setAck_imeSched, State.setAck_irqSample, hpoll, State.commitEi_eq]
  rfl

/-! ## An idle step -/

/-- The state that an idle step hands to the poll: `HALT_TICK` added, no acknowledge put out (R249). -/
def State.idled (s : State) : State := (s.setAck none).addClk s.params.haltTick

/-- An idle step is the tick, with nothing to commit, then the poll and the report (R249, R252). -/
theorem Idling.step_eq {s : State} (h : Idling s) (hsched : s.imeSched = false) :
    step s = .next ((s.idled.poll s.irqSample).dropSample.report .ok ((s.idled.poll s.irqSample).clk - s.clk)) := by
  have hlive : (s.setAck none).live = true := (State.live_iff _).2 ⟨h.notExited, .inr h.halted⟩
  have hstep : (s.setAck none).stepWith false = (s.setAck none).executingStep := by
    simp [State.stepWith, hlive, State.breaks, h.free, h.halted]
  have hexec : (s.setAck none).execute = .next s.idled := State.execute_halted h.halted
  have hok : s.idled.unfaulted = true := by simp [State.unfaulted, State.idled, h.halted]
  have hcommit : s.idled.commitEi s.imeSched = s.idled := by rw [hsched]; rfl
  have hpoll : s.idled.pollUnlessStopped s.irqSample = s.idled.poll s.irqSample := by
    simp [State.pollUnlessStopped, State.idled, h.halted]
  rw [step_of_quiet h.noHost, hstep, State.executingStep_next.2 ⟨s.idled, hexec, rfl⟩, State.finish_of_unfaulted hok,
    State.setAck_imeSched, State.setAck_irqSample, hcommit, hpoll, State.setAck_clk]

theorem Idling.wake_idled {s : State} (h : Idling s) : s.idled.wake = s.idled.setRun .running := by
  obtain ⟨-, hw⟩ | ⟨hne, -⟩ := s.idled.wake_cases
  · exact hw
  · exact absurd h.halted hne

/-- The dispatch stores the two bytes of `PC` and nothing else (R272, R273). -/
theorem State.enterInterrupt_stores (s : State) (v : Word) :
    StoresOnly [event (s.sp - 2) (loByte s.pc), event (s.sp - 1) (hiByte s.pc)] s (s.enterInterrupt v) :=
  { ((Frame.refl s).push16 s.pc).stores with }

/-- The word on the stack after the dispatch is the old `PC` (R272). -/
@[simp] theorem State.enterInterrupt_popValue (s : State) (v : Word) : (s.enterInterrupt v).popValue = s.pc := by
  simp [State.enterInterrupt, State.popValue_push16]

/-- Settles O53, in the three cases of the poll after the tick. -/
theorem haltedStep : Obligations.HaltedStep := by
  intro s hs hsched
  have hcycles : s.idled.clk - s.clk = s.params.haltTick := Nat.add_sub_cancel_left s.clk s.params.haltTick
  have hstep := hs.step_eq hsched
  refine ⟨fun hreq => ?_, fun v hreq hime => ?_, fun v hreq hime => ?_⟩
  · have hpoll : s.idled.poll s.irqSample = s.idled := by rw [hreq]; rfl
    rw [hstep, hpoll, hcycles]
    rfl
  · have hpoll : s.idled.poll s.irqSample = s.idled.wake := by simp [hreq, State.poll, State.idled, hime]
    rw [hstep, hpoll, State.wake_clk, hcycles, hs.wake_idled]
    rfl
  · have hpoll : s.idled.poll s.irqSample = (s.idled.setRun .running).enterInterrupt v := by
      rw [← hs.wake_idled]
      simp [hreq, State.poll, State.idled, hime]
    rw [hpoll] at hstep
    have hstores := State.enterInterrupt_stores (s.idled.setRun .running) v
    refine ⟨_, hstep, ?_, ?_, ?_, ?_, { hstores with }, ?_, ?_, ?_, ?_, ?_, ?_⟩ <;> simp [State.idled]

end Sys2Proof.Machine
end

section
/-! SUPPORT. The statements of 60_exceptions.md about interrupts: what the poll makes of a request in the sample of a
step whose instruction left the machine running or halted. -/

namespace Sys2Proof.Machine

/-! ## The poll after an instruction -/

/-- The enable after the commit: given already, or scheduled before the step and not cleared in it (R248). -/
theorem State.commitEi_ime (s : State) (b : Bool) : (s.commitEi b).ime = (s.ime || (b && s.imeSched)) := by
  rw [State.commitEi_eq, State.setImeSched_ime, State.setIme_ime]

/-- A machine that is running or halted is running after the wake (R272). -/
theorem State.wake_eq_setRun {s : State} (h : s.run = .running ∨ s.run = .halted) : s.wake = s.setRun .running := by
  obtain ⟨-, hw⟩ | ⟨hne, hw⟩ := s.wake_cases
  · exact hw
  · have hrun : s.run = .running := h.resolve_right hne
    rw [hw, ← hrun]
    rfl

/-- The dispatch overwrites the enable and its schedule, so it does not show whether one was committed (R272). -/
theorem State.enterInterrupt_commitEi (s : State) (b : Bool) (v : Word) :
    ((s.commitEi b).setRun .running).enterInterrupt v = (s.setRun .running).enterInterrupt v := by
  rw [State.commitEi_eq]
  rfl

/-- The step of an instruction that neither faults nor stops the machine: commit, poll and report (R252). -/
theorem Executing.step_polls {s t : State} (hs : Executing s)
    (hexec : exec (decodeAt s.mem s.pc) (s.setAck none) = .next t) (hrun : t.run = .running ∨ t.run = .halted) :
    step s = .next (((t.commitEi s.imeSched).poll s.irqSample).dropSample.report .ok
      (((t.commitEi s.imeSched).poll s.irqSample).clk - s.clk)) := by
  have hok : t.unfaulted = true := by obtain h | h := hrun <;> simp [State.unfaulted, h]
  have hpoll : (t.commitEi s.imeSched).pollUnlessStopped s.irqSample = (t.commitEi s.imeSched).poll s.irqSample := by
    obtain h | h := hrun <;> simp [State.pollUnlessStopped, h]
  rw [hs.step_eq, State.executingStep_next.2 ⟨t, hs.execute_eq.trans hexec, rfl⟩, State.finish_of_unfaulted hok,
    State.setAck_imeSched, State.setAck_irqSample, hpoll, State.setAck_clk]

/-! ## The statements -/

/-- Settles O51: after the commit the enable is 1, so the poll wakes the machine and enters the interrupt. -/
theorem interruptDispatch : Obligations.InterruptDispatch := by
  intro s t v hs hreq hexec hrun henable
  have hime : (t.commitEi s.imeSched).ime = true := by
    rw [State.commitEi_ime]
    obtain h | ⟨hs0, ht⟩ := henable
    · rw [h, Bool.true_or]
    · rw [hs0, ht, Bool.and_self, Bool.or_true]
  have hpoll : (t.commitEi s.imeSched).poll s.irqSample = (t.setRun .running).enterInterrupt v := by
    rw [hreq, State.poll, if_pos hime, State.wake_eq_setRun (by rwa [State.commitEi_run]),
      State.enterInterrupt_commitEi]
  have hparams : t.params = s.params := (exec_kept hexec).engine.params
  have hstep := hs.step_polls hexec hrun
  rw [hpoll] at hstep
  have hstores := State.enterInterrupt_stores (t.setRun .running) v
  have hhigh := (t.setRun .running).readByte_push16_high t.pc
  have hlow := (t.setRun .running).readByte_push16_low t.pc
  refine ⟨_, hstep, ?_, ?_, hhigh, hlow, { hstores with }, ?_⟩ <;> simp [hparams]

/-- Settles O52: there is no enable to commit or none to give, so the poll only wakes the machine. -/
theorem maskedRequestIgnored : Obligations.MaskedRequestIgnored := by
  intro s t v hs hreq hexec hrun hime hsched
  have hcommit : t.commitEi s.imeSched = t := by
    obtain ⟨hs0, ht, -⟩ | ⟨-, hc⟩ := t.commitEi_cases s.imeSched
    · simp [hs0, ht] at hsched
    · exact hc
  have hpoll : (t.commitEi s.imeSched).poll s.irqSample = t.setRun .running := by
    rw [hcommit, hreq, ← State.wake_eq_setRun hrun]
    simp [State.poll, hime]
  rw [hs.step_polls hexec hrun, hpoll]
  rfl

end Sys2Proof.Machine
end

section
/-! SUPPORT. The statements of 60_exceptions.md about the debug unit: the breakpoint set, and what each host action
makes of the step that follows it. -/

namespace Sys2Proof.Machine

/-! ## The breakpoint set -/

/-- An address is a breakpoint when the set holds it (R291). -/
theorem State.isBreakpoint_eq (s : State) (x : Word) : s.isBreakpoint x = decide (x ∈ s.bp) := List.elem_eq_mem x s.bp

/-- An ascending set holds no address twice (R25). -/
theorem nodup_of_ascending {l : List Word} (h : ascending l = true) : l.Nodup :=
  ((ascending_iff_pairwise l).1 h).imp fun hlt heq => Nat.ne_of_lt hlt (congrArg BitVec.toNat heq)

/-- An address that an ascending set holds has its place there, and is not put in again (R291). -/
theorem insertAscending_of_mem {x : Word} {l : List Word} (h : ascending l = true) (hx : x ∈ l) :
    insertAscending x l = l := by
  rw [ascending_iff_pairwise] at h
  induction l with
  | nil => cases hx
  | cons y l ih =>
    obtain ⟨hy, hl⟩ := List.pairwise_cons.1 h
    obtain rfl | hx := List.mem_cons.1 hx
    · rw [insertAscending, if_neg (Nat.lt_irrefl _), if_pos rfl]
    · have hyx : y.toNat < x.toNat := hy x hx
      have hne : x ≠ y := fun he => Nat.ne_of_gt hyx (congrArg BitVec.toNat he)
      rw [insertAscending, if_neg (Nat.lt_asymm hyx), if_neg hne, ih hl hx]

theorem State.addBreakpoint_isBreakpoint (s : State) (x y : Word) :
    (s.addBreakpoint x).isBreakpoint y = (decide (y = x) || s.isBreakpoint y) := by
  rw [State.isBreakpoint_eq, State.isBreakpoint_eq, ← Bool.decide_or]
  exact decide_eq_decide.2 mem_insertAscending

/-- Taking out the one place where an address stands takes out that address (R291). -/
theorem State.removeBreakpoint_isBreakpoint {s : State} {x : Word} {i : Nat} (h : ascending s.bp = true)
    (hi : s.bp[i]? = some x) (y : Word) :
    (s.removeBreakpoint i).isBreakpoint y = (decide (y ≠ x) && s.isBreakpoint y) := by
  have hnodup := nodup_of_ascending h
  obtain ⟨hlt, rfl⟩ := List.getElem?_eq_some_iff.1 hi
  have herase : (s.removeBreakpoint i).bp = s.bp.erase s.bp[i] := (hnodup.erase_getElem i hlt).symm
  rw [State.isBreakpoint_eq, State.isBreakpoint_eq, ← Bool.decide_and, herase]
  exact decide_eq_decide.2 hnodup.mem_erase_iff

/-- Settles O57: the set is a list in strict order, so an address stands in it at one place or at none. -/
theorem breakpointSet : Obligations.BreakpointSet := by
  intro s x y i h
  refine ⟨s.addBreakpoint_isBreakpoint x y, ascending_insertAscending x h, ascending_eraseIdx i h, fun hx => ?_,
    fun hi => ⟨?_, State.removeBreakpoint_isBreakpoint h hi y⟩, List.eraseIdx_of_length_le⟩
  · rw [State.isBreakpoint_eq] at hx
    exact insertAscending_of_mem h (of_decide_eq_true hx)
  · rw [State.removeBreakpoint_isBreakpoint h hi x, decide_eq_false (not_not_intro rfl), Bool.false_and]

/-! ## The host action before a step -/

/-- The action that waits is used up and done (R254). -/
theorem State.afterHost_setHostIn_item (s : State) (c : HostCmd) (rest : Feed HostCmd) :
    (s.setHostIn (.item c rest)).afterHost = (s.setHostIn rest).hostAct c := rfl

/-- On a paused machine the waiting action is used up and done, and `STEP` makes the step a single one (R252, R293). -/
theorem step_of_paused {s : State} (hexit : s.exited = false) (hpaused : s.dbgMode = .paused) (c : HostCmd)
    (rest : Feed HostCmd) :
    step (s.setHostIn (.item c rest)) =
      (((s.setHostIn rest).pausedAct c).setAck none).stepWith (decide (c = .step)) := by
  have hact : (s.setHostIn rest).hostAct c = (s.setHostIn rest).pausedAct c := by simp [State.hostAct, hexit, hpaused]
  have hsingle : (s.setHostIn (.item c rest)).single = decide (c = .step) := by
    rw [State.single, State.setHostIn_dbgMode, hpaused]
    exact Bool.and_true _
  rw [step, machineStep, State.afterHost_setHostIn_item, hact, hsingle]

/-- On a free-running machine no action makes a single step (R245, R296). -/
theorem step_of_free {s : State} (hexit : s.exited = false) (hfree : s.dbgMode = .freeRunning) (c : HostCmd)
    (rest : Feed HostCmd) :
    step (s.setHostIn (.item c rest)) = (((s.setHostIn rest).freeAct c).setAck none).stepWith false := by
  have hact : (s.setHostIn rest).hostAct c = (s.setHostIn rest).freeAct c := by simp [State.hostAct, hexit, hfree]
  have hsingle : (s.setHostIn (.item c rest)).single = false := by simp [State.single, hfree]
  rw [step, machineStep, State.afterHost_setHostIn_item, hact, hsingle]

/-! ## The four ways of R252, each under its condition -/

theorem State.stepWith_ended {s : State} (hlive : s.live = false) (single : Bool) :
    s.stepWith single = .next (s.report .ended 0) := by
  simp [State.stepWith, hlive]

theorem State.stepWith_waiting {s : State} (hlive : s.live = true) (hpaused : s.dbgMode = .paused) :
    s.stepWith false = .next (s.report .waitingForHost 0) := by
  simp [State.stepWith, hlive, hpaused]

theorem State.stepWith_breaks {s : State} (hlive : s.live = true) (hbreaks : s.breaks = true) (single : Bool) :
    s.stepWith single = .next ((s.setDbgMode .paused).report (.breakpointHit s.pc) 0) := by
  have hfree : s.dbgMode = .freeRunning := (s.breaks_iff.1 hbreaks).1
  simp [State.stepWith, hlive, hbreaks, hfree]

theorem State.stepWith_executes {s : State} {single : Bool} (hlive : s.live = true)
    (hsingle : s.dbgMode = .paused → single = true) (hbreaks : s.breaks = false) :
    s.stepWith single = s.executingStep := by
  cases hmode : s.dbgMode with
  | paused => simp [State.stepWith, hlive, hbreaks, hsingle hmode]
  | freeRunning => simp [State.stepWith, hlive, hbreaks, hmode]

/-- The breakpoint test is for a free-running machine (R251). -/
theorem State.breaks_of_paused {s : State} (h : s.dbgMode = .paused) : s.breaks = false := by
  simp [State.breaks, h]

/-- A halted machine meets no breakpoint, and a running one only on an address of the set (R251). -/
theorem State.breaks_of_halted_or_off {s : State} (h : s.run = .halted ∨ s.isBreakpoint s.pc = false) :
    s.breaks = false := by
  obtain h | h := h <;> simp [State.breaks, h]

/-! ## What an executing step leaves of the debug unit -/

/-- A machine that is not running ticks (R249). -/
theorem State.execute_of_not_running {s : State} (h : s.run ≠ .running) :
    s.execute = .next (s.addClk s.params.haltTick) := by
  unfold State.execute
  split
  · next hrun => exact absurd hrun h
  · rfl

/-- The instruction part leaves the debug unit's mode and the host's actions alone (R290). -/
theorem State.execute_keeps_host {s t : State} (h : s.execute = .next t) :
    t.dbgMode = s.dbgMode ∧ t.hostIn = s.hostIn := by
  by_cases hrun : s.run = .running
  · rw [State.execute_running hrun] at h
    exact ⟨(exec_kept h).engine.dbgMode, (exec_kept h).engine.hostIn⟩
  · cases (State.execute_of_not_running hrun).symm.trans h
    exact ⟨rfl, rfl⟩

theorem State.pollUnlessStopped_keeps_host (s : State) (q : Option Word) :
    (s.pollUnlessStopped q).dbgMode = s.dbgMode ∧ (s.pollUnlessStopped q).hostIn = s.hostIn := by
  unfold State.pollUnlessStopped
  split
  · exact ⟨rfl, rfl⟩
  · obtain ⟨-, h⟩ | ⟨v, -, -, h⟩ | ⟨v, -, -, h⟩ := s.poll_cases q <;> simp [h]

theorem State.finish_keeps_host (s t : State) :
    (s.finish t).dbgMode = t.dbgMode ∧ (s.finish t).hostIn = t.hostIn := by
  obtain ⟨f, -, h⟩ | ⟨-, h⟩ := s.finish_cases t
  · simp [h]
  · obtain ⟨hmode, hhost⟩ := (t.commitEi s.imeSched).pollUnlessStopped_keeps_host s.irqSample
    simp [h, hmode, hhost]

theorem State.executingStep_keeps_host {s t : State} (h : s.executingStep = .next t) :
    t.dbgMode = s.dbgMode ∧ t.hostIn = s.hostIn := by
  obtain ⟨u, hu, rfl⟩ := State.executingStep_next.1 h
  obtain ⟨hmode, hhost⟩ := State.execute_keeps_host hu
  obtain ⟨hmode', hhost'⟩ := s.finish_keeps_host u
  exact ⟨hmode'.trans hmode, hhost'.trans hhost⟩

/-- A halted machine with nothing to commit and no request only counts the cycles of the tick (R249). -/
theorem State.executingStep_halted {s : State} (hrun : s.run = .halted) (hsched : s.imeSched = false)
    (hreq : s.irqSample = none) :
    s.executingStep = .next ((s.addClk s.params.haltTick).dropSample.report .ok s.params.haltTick) := by
  have hok : (s.addClk s.params.haltTick).unfaulted = true := by simp [State.unfaulted, hrun]
  have hcommit : (s.addClk s.params.haltTick).commitEi s.imeSched = s.addClk s.params.haltTick := by rw [hsched]; rfl
  rw [State.executingStep_next.2 ⟨_, State.execute_halted hrun, rfl⟩, State.finish_of_unfaulted hok, hcommit,
    State.pollUnlessStopped_eq_self (.inl hreq), State.addClk_clk, Nat.add_sub_cancel_left]

/-! ## The statement -/

/-- `STEP` on a paused machine is the executing step, on a breakpoint too (R292, R293). -/
theorem step_single_of_paused {s : State} (hexit : s.exited = false) (hpaused : s.dbgMode = .paused)
    (hrun : s.run = .running ∨ s.run = .halted) (rest : Feed HostCmd) :
    step (s.setHostIn (.item .step rest)) = ((s.setHostIn rest).setAck none).executingStep :=
  (step_of_paused hexit hpaused .step rest).trans
    (State.stepWith_executes ((State.live_iff _).2 ⟨hexit, hrun⟩) (fun _ => rfl) (State.breaks_of_paused hpaused))

/-- Settles O56: the action is done first, and the state it leaves decides among the four ways of R252. -/
theorem hostActions : Obligations.HostActions := by
  intro s rest hexit
  have hlive (hrun : s.run = .running ∨ s.run = .halted) : (s.setAck none).live = true :=
    (State.live_iff _).2 ⟨hexit, hrun⟩
  refine ⟨fun hpaused => ?_, fun hfree hrun => ?_⟩
  · have hstep (c : HostCmd) := step_of_paused hexit hpaused c rest
    have hsingle (hrun : s.run = .running ∨ s.run = .halted) := step_single_of_paused hexit hpaused hrun rest
    refine ⟨fun hrun => ⟨hsingle hrun, fun t ht => ?_, fun hoff => ?_, fun x => ?_, fun i => ?_, fun c hc => ?_⟩,
      fun hrun hsched hreq => ?_, fun hrun hbp => ?_, fun hend => ?_, ?_⟩
    · obtain ⟨hmode, hhost⟩ := State.executingStep_keeps_host ((hsingle hrun).symm.trans ht)
      exact ⟨hmode.trans hpaused, hhost⟩
    · rw [hstep]
      exact State.stepWith_executes (hlive hrun) (fun h => nomatch h) (State.breaks_of_halted_or_off hoff)
    · rw [hstep]
      exact State.stepWith_waiting (hlive hrun) hpaused
    · rw [hstep]
      exact State.stepWith_waiting (hlive hrun) hpaused
    · rw [hstep]
      obtain rfl | rfl := hc <;> exact State.stepWith_waiting (hlive hrun) hpaused
    · rw [hsingle (.inr hrun), State.executingStep_halted (s := (s.setHostIn rest).setAck none) hrun hsched hreq]
      rfl
    · have hbreaks : (((s.setHostIn rest).pausedAct .brk).setAck none).breaks = true :=
        (State.breaks_iff _).2 ⟨rfl, hrun, hbp⟩
      have hlive' : (((s.setHostIn rest).pausedAct .brk).setAck none).live = true := hlive (.inl hrun)
      rw [hstep, State.stepWith_breaks hlive' hbreaks, ← hpaused]
      rfl
    · have hdead : (((s.setHostIn rest).pausedAct .step).setAck none).live = false := by
        obtain h | ⟨f, h⟩ := hend <;> simp [State.live, State.pausedAct, h]
      rw [hstep, State.stepWith_ended hdead]
      rfl
    · have hdead : (((s.setHostIn rest).pausedAct .exit).setAck none).live = false := rfl
      rw [hstep, State.stepWith_ended hdead]
      rfl
  · rw [step_of_free hexit hfree]
    exact State.stepWith_waiting (hlive hrun) rfl

end Sys2Proof.Machine
end

section
/-! SUPPORT. The statement of 70_reset_and_hazards.md about power-on: the boot image read back, and the state that
power-on leaves. -/

namespace Sys2Proof.Machine

/-- The first byte of a list is laid out at its own address alone (R43, R300). -/
theorem Memory.read_ofBytes_cons_of_ne (v : Byte) (vs : List Byte) {a n : Nat} (h : a ≠ n) :
    (Memory.ofBytes a (v :: vs)).read n = (Memory.ofBytes (a + 1) vs).read n := by
  rw [Memory.ofBytes]
  split
  · rfl
  · exact if_neg h

/-- A store laid out from a list of bytes holds them from its first address on, and nothing elsewhere (R43, R300). -/
theorem Memory.read_ofBytes (vs : List Byte) (a n : Nat) :
    (Memory.ofBytes a vs).read n = if n < a then unwrittenByte else vs.getD (n - a) unwrittenByte := by
  induction vs generalizing a with
  | nil => simp [Memory.ofBytes, Memory.read]
  | cons v vs ih =>
    obtain hlt | rfl | hgt := Nat.lt_trichotomy n a
    · rw [if_pos hlt, Memory.read_ofBytes_cons_of_ne v vs (Nat.ne_of_gt hlt), ih, if_pos (Nat.lt_succ_of_lt hlt)]
    · rw [if_neg (Nat.lt_irrefl n), Nat.sub_self, List.getD_cons_zero, Memory.ofBytes]
      split
      · next hv => rw [ih, if_pos (Nat.lt_succ_self n), hv]
      · exact if_pos rfl
    · have hsub : n - a = n - (a + 1) + 1 := by omega
      rw [if_neg (Nat.lt_asymm hgt), hsub, List.getD_cons_succ, Memory.read_ofBytes_cons_of_ne v vs (Nat.ne_of_lt hgt),
        ih, if_neg (Nat.not_lt_of_le hgt)]

/-- The state that power-on leaves meets the invariant when its image fits (R300, R301). -/
theorem stateInv_poweredOn {image : List Byte} (h : image.length ≤ 65536) (r : ResetRegs) (dbg : Bool) (p : Params)
    (irq : Feed (Option Word)) (host : Feed HostCmd) : StateInv (poweredOn image r dbg p irq host) :=
  ⟨Memory.ofBytes_wf image h, rfl, fun _ => rfl, fun _ => rfl, fun _ => rfl⟩

/-- Settles O58: an image that fits is read back byte for byte, and the other fields are those of `poweredOn`. -/
theorem powerOn_spec : Obligations.PowerOn := by
  intro image r dbg p irq host
  refine ⟨fun hfits => ?_, fun hlong => if_neg (Nat.not_le_of_lt hlong), rfl⟩
  have hread (a : Word) : (poweredOn image r dbg p irq host).readByte a = image.getD a.toNat 0 :=
    Memory.read_ofBytes image 0 a.toNat
  exact ⟨_, if_pos hfits, hread, rfl, Flags.toByte_ofByte r.f, rfl, rfl, rfl, rfl, rfl, rfl, rfl, rfl, rfl, rfl, rfl, rfl,
    stateInv_poweredOn hfits r dbg p irq host⟩

end Sys2Proof.Machine
end
